-- ==== Sys2Proof/Word.lean ====
section
/-! DEFINITION. The value types of MRLX-CORE (R12: every value is an unsigned integer of a stated width). -/
namespace Sys2Proof

/-- A byte: a serial byte, a store byte, one field of a host request (R12, R100). -/
abbrev Byte := BitVec 8

/-- The 7-bit value of a MIDI data byte: a note, a velocity, a pedal position (R92). -/
abbrev Data7 := BitVec 7

/-- The low nibble of a channel-message status byte: the MIDI channel, which R98 ignores. -/
abbrev Nibble := BitVec 4

end Sys2Proof
end

