-- ==== Sys2Proof/Config.lean ====
section
/-! DEFINITION. The parameter record CFG of R10 and R62, its constraints, and the reference values REFCFG.
CFG is fixed for an execution; State carries it, so that every statement about every state is a statement about every CFG. -/
namespace Sys2Proof

/-- The hold-duration profile DUR_MODE (R10, R202). -/
inductive DurMode where
  | fixed
  | velocityDerived
deriving DecidableEq, Repr

/-- The reported-velocity profile VEL_XFORM (R10, R205). -/
inductive VelXform where
  | identity
  | inverted
deriving DecidableEq, Repr

/-- The channel role ROLE[ch] that the velocity-derived profile reads (R10, R202). -/
inductive Role where
  | pad
  | cymbal
  | pedal
deriving DecidableEq, Repr

/-- The numeric value OPC_<mnemonic> of each host opcode (R104: CFG fields). -/
structure Opcodes where
  getVersion : Byte
  getFeatures : Byte
  enterCmdMode : Byte
  exitCmdMode : Byte
  getHold : Byte
  setHold : Byte
  getVelthr : Byte
  setVelthr : Byte
  getSwap : Byte
  setSwap : Byte
  getHhthr : Byte
  setHhthr : Byte
  getBank : Byte
  setBank : Byte
  getMap : Byte
  setMap : Byte
  forceOutput : Byte
  readLine : Byte
deriving DecidableEq, Repr

/-- The eighteen opcode numbers in the order of the table of R104. -/
def Opcodes.toList (o : Opcodes) : List Byte :=
  [o.getVersion, o.getFeatures, o.enterCmdMode, o.exitCmdMode, o.getHold, o.setHold, o.getVelthr, o.setVelthr,
   o.getSwap, o.setSwap, o.getHhthr, o.setHhthr, o.getBank, o.setBank, o.getMap, o.setMap, o.forceOutput, o.readLine]

/-- The parameter record CFG: the fields of R10 under the spec's names, with the store layout of R62. -/
structure Cfg where
  /-- Number of output channels. -/
  C : Nat
  /-- Slots per channel. -/
  S : Nat
  /-- Number of buttons. -/
  NB : Nat
  /-- Number of boolean input lines sampled per tick; lines 0..NB-1 are the buttons. -/
  NL : Nat
  /-- The "unassigned" sentinel of a NoteMap entry (R170). -/
  UNASSIGNED : Byte
  /-- Capacity of the SysEx buffer (R28). -/
  SYSEX_CAP : Nat
  /-- The hi-hat pedal controller number (R145). -/
  HH_CC : Data7
  T_PRESS : Nat
  T_HELD : Nat
  T_LONG : Nat
  T_SUPER : Nat
  BTN_UP : Nat
  BTN_DOWN : Nat
  BTN_LEFT : Nat
  BTN_RIGHT : Nat
  BTN_CANCEL : Nat
  BTN_MODE : Nat
  BTN_CYCLE : Nat
  /-- The optional swap-gesture button of Play (R248). -/
  BTN_SWAP : Option Nat
  /-- One step of the quantized velocity threshold (R258). -/
  VEL_STEP : Nat
  DEF_HOLD : Byte
  DEF_VELTHR : Byte
  DEF_BANK : Byte
  DEF_SWAP : Byte
  DEF_HHTHR : Byte
  /-- The default table of bank 0, C rows of S bytes (R64). -/
  DEFAULT_MAP0 : List (List Byte)
  /-- The default table of bank 1, C rows of S bytes (R64). -/
  DEFAULT_MAP1 : List (List Byte)
  DUR_MODE : DurMode
  VEL_XFORM : VelXform
  /-- The role of each channel, C entries (R202). -/
  ROLE : List Role
  /-- The fixed long pulse of a pedal channel, in ticks (R202). -/
  PEDAL_PULSE : Byte
  /-- Whether the pedal comparison is OR'd into channel HH_CH (R207). -/
  PEDAL_OR : Bool
  HH_CH : Option Nat
  /-- The expected schema marker (R362). -/
  SCHEMA_VERSION : Byte
  VERSION_MAJOR : Byte
  VERSION_MINOR : Byte
  /-- The feature bitmask (R288). -/
  FEATURES : BitVec 16
  /-- The valid request prefix (R102). -/
  CMD_PREFIX : Byte
  opcodes : Opcodes
  ADDR_VERSION : Nat
  ADDR_HOLD : Nat
  ADDR_VELTHR : Nat
  ADDR_BANK : Nat
  ADDR_SWAP : Nat
  ADDR_HHTHR : Nat
  BANK_BASE0 : Nat
  BANK_BASE1 : Nat
  STORE_SIZE : Nat
  /-- Whether LINKERR raises the distress indication (R336). -/
  LINKERR_DISTRESS : Bool
deriving DecidableEq, Repr

/-- No value occurs twice. -/
def allDistinct {α : Type} [DecidableEq α] : List α → Bool
  | [] => true
  | x :: xs => !xs.contains x && allDistinct xs

namespace Cfg

/-- The constraints of R10 on the sizes and the scalar parameters. -/
def sizesOk (c : Cfg) : Bool :=
  decide (1 ≤ c.C ∧ c.C ≤ 128 ∧ 1 ≤ c.S ∧ c.S ≤ 255 ∧ 1 ≤ c.NB ∧ c.NB ≤ c.NL) && decide (128 ≤ c.UNASSIGNED.toNat)

/-- 1 ≤ T_PRESS ≤ T_HELD ≤ T_LONG ≤ T_SUPER ≤ 65535 (R10, R227). -/
def thresholdsOk (c : Cfg) : Bool :=
  decide (1 ≤ c.T_PRESS ∧ c.T_PRESS ≤ c.T_HELD ∧ c.T_HELD ≤ c.T_LONG ∧ c.T_LONG ≤ c.T_SUPER ∧ c.T_SUPER ≤ 65535)

/-- The seven designated buttons. -/
def designated (c : Cfg) : List Nat :=
  [c.BTN_UP, c.BTN_DOWN, c.BTN_LEFT, c.BTN_RIGHT, c.BTN_CANCEL, c.BTN_MODE, c.BTN_CYCLE]

/-- The designated buttons are distinct and below NB; the optional swap button is below NB (R10). -/
def buttonsOk (c : Cfg) : Bool :=
  allDistinct c.designated && c.designated.all (fun i => decide (i < c.NB)) &&
    (match c.BTN_SWAP with | none => true | some i => decide (i < c.NB))

/-- The constraints of R10 on the step and the default configuration values. -/
def defaultsOk (c : Cfg) : Bool :=
  decide (1 ≤ c.VEL_STEP ∧ 6 * c.VEL_STEP ≤ 127 ∧ 1 ≤ c.DEF_HOLD.toNat ∧ c.DEF_HOLD.toNat ≤ 6 ∧
    c.DEF_VELTHR.toNat ≤ 6 * c.VEL_STEP ∧ c.DEF_BANK.toNat ≤ 1 ∧ c.DEF_HHTHR.toNat ≤ 127)

/-- Once the sentinel stands in a list, only sentinels follow, and every other entry is a note 0..127 (R10, R18). -/
def densePrefix (u : Byte) : List Byte → Bool
  | [] => true
  | b :: bs => if b = u then bs.all (fun x => decide (x = u)) else decide (b.toNat ≤ 127) && densePrefix u bs

/-- A default table has C rows of S entries, each a dense prefix (R10). -/
def tableOk (c : Cfg) (t : List (List Byte)) : Bool :=
  decide (t.length = c.C) && t.all (fun r => decide (r.length = c.S) && densePrefix c.UNASSIGNED r)

/-- Both default tables, the role list and the pedal channel meet R10. -/
def tablesOk (c : Cfg) : Bool :=
  c.tableOk c.DEFAULT_MAP0 && c.tableOk c.DEFAULT_MAP1 && decide (c.ROLE.length = c.C) &&
    (match c.HH_CH with | none => true | some ch => decide (ch < c.C))

/-- The six ADDR_* values (R62). -/
def addrs (c : Cfg) : List Nat :=
  [c.ADDR_VERSION, c.ADDR_HOLD, c.ADDR_VELTHR, c.ADDR_BANK, c.ADDR_SWAP, c.ADDR_HHTHR]

/-- R62: the ADDR_* values are distinct, the bank regions overlap neither each other nor an ADDR_*, and all lie below STORE_SIZE. -/
def layoutOk (c : Cfg) : Bool :=
  allDistinct c.addrs && c.addrs.all (fun a => decide (a < c.STORE_SIZE)) &&
    c.addrs.all (fun a => decide (a < c.BANK_BASE0 ∨ c.BANK_BASE0 + c.C * c.S ≤ a)) &&
    c.addrs.all (fun a => decide (a < c.BANK_BASE1 ∨ c.BANK_BASE1 + c.C * c.S ≤ a)) &&
    decide ((c.BANK_BASE0 + c.C * c.S ≤ c.BANK_BASE1 ∨ c.BANK_BASE1 + c.C * c.S ≤ c.BANK_BASE0) ∧
      c.BANK_BASE0 + c.C * c.S ≤ c.STORE_SIZE ∧ c.BANK_BASE1 + c.C * c.S ≤ c.STORE_SIZE)

/-- CFG meets every constraint of R10 and R62. The rules are stated only for such a CFG; step refuses any other
(93_implementation_defined.md U2). -/
def valid (c : Cfg) : Bool :=
  c.sizesOk && c.thresholdsOk && c.buttonsOk && c.defaultsOk && c.tablesOk && allDistinct c.opcodes.toList && c.layoutOk

end Cfg

/-- The reference opcode numbers of R104. -/
def refOpcodes : Opcodes where
  getVersion := 0x00
  getFeatures := 0x01
  enterCmdMode := 0x02
  exitCmdMode := 0x03
  getHold := 0x10
  setHold := 0x11
  getVelthr := 0x12
  setVelthr := 0x13
  getSwap := 0x14
  setSwap := 0x15
  getHhthr := 0x16
  setHhthr := 0x17
  getBank := 0x18
  setBank := 0x19
  getMap := 0x20
  setMap := 0x21
  forceOutput := 0x30
  readLine := 0x31

/-- REFCFG: the values of R10, R62, R104 and the default tables of 95_test_vectors.md section 1. -/
def refcfg : Cfg where
  C := 8
  S := 4
  NB := 8
  NL := 10
  UNASSIGNED := 0xFF
  SYSEX_CAP := 16
  HH_CC := 4
  T_PRESS := 2
  T_HELD := 4
  T_LONG := 6
  T_SUPER := 8
  BTN_UP := 0
  BTN_DOWN := 1
  BTN_LEFT := 2
  BTN_RIGHT := 3
  BTN_CANCEL := 4
  BTN_MODE := 5
  BTN_CYCLE := 6
  BTN_SWAP := none
  VEL_STEP := 16
  DEF_HOLD := 3
  DEF_VELTHR := 16
  DEF_BANK := 0
  DEF_SWAP := 0xFF
  DEF_HHTHR := 64
  DEFAULT_MAP0 :=
    [[38, 40, 0xFF, 0xFF], [48, 50, 0xFF, 0xFF], [45, 47, 0xFF, 0xFF], [41, 43, 0xFF, 0xFF],
     [36, 35, 0xFF, 0xFF], [42, 46, 0xFF, 0xFF], [49, 57, 0xFF, 0xFF], [44, 0xFF, 0xFF, 0xFF]]
  DEFAULT_MAP1 :=
    [[60, 0xFF, 0xFF, 0xFF], [61, 0xFF, 0xFF, 0xFF], [62, 0xFF, 0xFF, 0xFF], [63, 0xFF, 0xFF, 0xFF],
     [64, 0xFF, 0xFF, 0xFF], [65, 0xFF, 0xFF, 0xFF], [66, 0xFF, 0xFF, 0xFF], [67, 0xFF, 0xFF, 0xFF]]
  DUR_MODE := .fixed
  VEL_XFORM := .identity
  ROLE := [.pad, .pad, .pad, .pad, .pedal, .cymbal, .cymbal, .pedal]
  PEDAL_PULSE := 30
  PEDAL_OR := true
  HH_CH := some 7
  SCHEMA_VERSION := 0x07
  VERSION_MAJOR := 1
  VERSION_MINOR := 0
  FEATURES := 0x0000
  CMD_PREFIX := 0xA5
  opcodes := refOpcodes
  ADDR_VERSION := 0
  ADDR_HOLD := 1
  ADDR_VELTHR := 2
  ADDR_BANK := 3
  ADDR_SWAP := 4
  ADDR_HHTHR := 5
  BANK_BASE0 := 8
  BANK_BASE1 := 40
  STORE_SIZE := 72
  LINKERR_DISTRESS := false

end Sys2Proof
end

