-- ==== Sys2Proof/Syntax.lean ====
section
/-! DEFINITION. The events of R90 as the environment presents them, and the instructions: one constructor for each row of
spec/opcode_table.json. A data byte's row is selected by the parser state (R139), so each of the twelve states has its own constructor. -/
namespace Sys2Proof

/-- MSTATE, the twelve parser states of R22. -/
inductive MState where
  | waitingForStatus
  | waitingForNoteOn
  | waitingForOnVelocity
  | waitingForNoteOff
  | waitingForOffVelocity
  | waitingForCCData1
  | waitingForCCData2
  | waitingForPedalData
  | waitingForData1Only
  | waitingForData1Of2
  | waitingForData2
  | collectSysExData
deriving DecidableEq, Repr

/-- One event as it is presented to the block (R9, R90). The lengths are checked by the decoder. -/
inductive Event where
  /-- RESET(store0): the content of the persistent store at power-up. -/
  | reset (store0 : List Byte)
  /-- BYTE(b): one received serial byte. -/
  | byte (b : Byte)
  /-- TICK(lines): one boolean for each input line. -/
  | tick (lines : List Bool)
  /-- HOSTREQ(req): the request bytes in order (R100). -/
  | hostreq (req : List Byte)
  /-- LINKERR: no argument. -/
  | linkerr
deriving DecidableEq, Repr

/-- The eighteen named operations of the host protocol (R104). -/
inductive HostOp where
  | getVersion
  | getFeatures
  | enterCmdMode
  | exitCmdMode
  | getHold
  | setHold
  | getVelthr
  | setVelthr
  | getSwap
  | setSwap
  | getHhthr
  | setHhthr
  | getBank
  | setBank
  | getMap
  | setMap
  | forceOutput
  | readLine
deriving DecidableEq, Repr

/-- The fields of a request after prefix and opcode: sequence and the five parameters (R100). -/
structure HostArgs where
  seq : Byte
  p0 : Byte
  p1 : Byte
  p2 : Byte
  p3 : Byte
  p4 : Byte
deriving DecidableEq, Repr

/-- The instructions: a row of spec/opcode_table.json each. `n` is the MIDI channel nibble (R98), `v` a data byte's value (R92). -/
inductive Instr where
  | noteOff (n : Nibble)
  | noteOn (n : Nibble)
  | polyAftertouch (n : Nibble)
  | controlChange (n : Nibble)
  | programChange (n : Nibble)
  | channelAftertouch (n : Nibble)
  | pitchBend (n : Nibble)
  | sysexStart
  | quarterFrame
  | songPosition
  | songSelect
  | sysexEnd
  | timingClock
  | activeSensing
  | undefF4
  | undefF5
  | tuneRequest
  | undefF9
  | midiStart
  | midiContinue
  | midiStop
  | undefFD
  | systemReset
  | dataWaitingForStatus (v : Data7)
  | dataWaitingForNoteOn (v : Data7)
  | dataWaitingForOnVelocity (v : Data7)
  | dataWaitingForNoteOff (v : Data7)
  | dataWaitingForOffVelocity (v : Data7)
  | dataWaitingForCCData1 (v : Data7)
  | dataWaitingForCCData2 (v : Data7)
  | dataWaitingForPedalData (v : Data7)
  | dataWaitingForData1Only (v : Data7)
  | dataWaitingForData1Of2 (v : Data7)
  | dataWaitingForData2 (v : Data7)
  | dataCollectSysExData (v : Data7)
  | getVersion (a : HostArgs)
  | getFeatures (a : HostArgs)
  | enterCmdMode (a : HostArgs)
  | exitCmdMode (a : HostArgs)
  | getHold (a : HostArgs)
  | setHold (a : HostArgs)
  | getVelthr (a : HostArgs)
  | setVelthr (a : HostArgs)
  | getSwap (a : HostArgs)
  | setSwap (a : HostArgs)
  | getHhthr (a : HostArgs)
  | setHhthr (a : HostArgs)
  | getBank (a : HostArgs)
  | setBank (a : HostArgs)
  | getMap (a : HostArgs)
  | setMap (a : HostArgs)
  | forceOutput (a : HostArgs)
  | readLine (a : HostArgs)
  | hostUnknownOpcode (op : Byte) (a : HostArgs)
  | hostInvalidPrefix (pfx : Byte) (op : Byte) (a : HostArgs)
  | tick (lines : List Bool)
  | linkErr
  | reset (store0 : List Byte)
deriving DecidableEq, Repr

end Sys2Proof
end

