-- ==== Sys2Proof/WellFormed.lean ====
section
/-! DEFINITION. Which terms of Instr stand for an event of R90 under a CFG: the argument lengths, and that the two catch-all
host rows stand only for the requests their rules name. -/
namespace Sys2Proof

/-- The instruction is an event of the interface under CFG `c` (R90, R112, R281, R284). A byte's and a named request's operands
are whole fields, so those terms are well formed whatever the operands. -/
def WellFormed (c : Cfg) : Instr → Bool
  | .noteOff _ => true
  | .noteOn _ => true
  | .polyAftertouch _ => true
  | .controlChange _ => true
  | .programChange _ => true
  | .channelAftertouch _ => true
  | .pitchBend _ => true
  | .sysexStart => true
  | .quarterFrame => true
  | .songPosition => true
  | .songSelect => true
  | .sysexEnd => true
  | .timingClock => true
  | .activeSensing => true
  | .undefF4 => true
  | .undefF5 => true
  | .tuneRequest => true
  | .undefF9 => true
  | .midiStart => true
  | .midiContinue => true
  | .midiStop => true
  | .undefFD => true
  | .systemReset => true
  | .dataWaitingForStatus _ => true
  | .dataWaitingForNoteOn _ => true
  | .dataWaitingForOnVelocity _ => true
  | .dataWaitingForNoteOff _ => true
  | .dataWaitingForOffVelocity _ => true
  | .dataWaitingForCCData1 _ => true
  | .dataWaitingForCCData2 _ => true
  | .dataWaitingForPedalData _ => true
  | .dataWaitingForData1Only _ => true
  | .dataWaitingForData1Of2 _ => true
  | .dataWaitingForData2 _ => true
  | .dataCollectSysExData _ => true
  | .getVersion _ => true
  | .getFeatures _ => true
  | .enterCmdMode _ => true
  | .exitCmdMode _ => true
  | .getHold _ => true
  | .setHold _ => true
  | .getVelthr _ => true
  | .setVelthr _ => true
  | .getSwap _ => true
  | .setSwap _ => true
  | .getHhthr _ => true
  | .setHhthr _ => true
  | .getBank _ => true
  | .setBank _ => true
  | .getMap _ => true
  | .setMap _ => true
  | .forceOutput _ => true
  | .readLine _ => true
  | .hostUnknownOpcode op _ => !c.opcodes.toList.contains op
  | .hostInvalidPrefix pfx _ _ => pfx != c.CMD_PREFIX
  | .tick lines => lines.length == c.NL
  | .linkErr => true
  | .reset store0 => store0.length == c.STORE_SIZE

end Sys2Proof
end

