-- ==== Sys2Proof/Decode.lean ====
section
/-! DEFINITION. From an event's bits to its instruction, total, rejecting by name; the encoder after it; and the reading of
an instruction word as spec/opcode_table.json numbers its bits. -/
namespace Sys2Proof

/-- Why an event is no event of the interface of R90. -/
inductive DecodeError where
  /-- A TICK whose argument is not NL booleans (R112). -/
  | tickLineCount
  /-- A HOSTREQ whose argument is not 8 bytes (R100). -/
  | requestLength
  /-- A RESET whose argument is not STORE_SIZE bytes (R360). -/
  | storeImageLength
deriving DecidableEq, Repr

/-- Every operation of the host protocol, in the order of R104. -/
def HostOp.all : List HostOp :=
  [.getVersion, .getFeatures, .enterCmdMode, .exitCmdMode, .getHold, .setHold, .getVelthr, .setVelthr, .getSwap, .setSwap,
   .getHhthr, .setHhthr, .getBank, .setBank, .getMap, .setMap, .forceOutput, .readLine]

/-- OPC_<mnemonic> (R104). -/
def Opcodes.code (o : Opcodes) : HostOp → Byte
  | .getVersion => o.getVersion
  | .getFeatures => o.getFeatures
  | .enterCmdMode => o.enterCmdMode
  | .exitCmdMode => o.exitCmdMode
  | .getHold => o.getHold
  | .setHold => o.setHold
  | .getVelthr => o.getVelthr
  | .setVelthr => o.setVelthr
  | .getSwap => o.getSwap
  | .setSwap => o.setSwap
  | .getHhthr => o.getHhthr
  | .setHhthr => o.setHhthr
  | .getBank => o.getBank
  | .setBank => o.setBank
  | .getMap => o.getMap
  | .setMap => o.setMap
  | .forceOutput => o.forceOutput
  | .readLine => o.readLine

/-- The instruction of a named host operation. -/
def HostOp.instr (a : HostArgs) : HostOp → Instr
  | .getVersion => .getVersion a
  | .getFeatures => .getFeatures a
  | .enterCmdMode => .enterCmdMode a
  | .exitCmdMode => .exitCmdMode a
  | .getHold => .getHold a
  | .setHold => .setHold a
  | .getVelthr => .getVelthr a
  | .setVelthr => .setVelthr a
  | .getSwap => .getSwap a
  | .setSwap => .setSwap a
  | .getHhthr => .getHhthr a
  | .setHhthr => .setHhthr a
  | .getBank => .getBank a
  | .setBank => .setBank a
  | .getMap => .getMap a
  | .setMap => .setMap a
  | .forceOutput => .forceOutput a
  | .readLine => .readLine a

/-- A system message 0xFn, selected by its low nibble (R91, R93, R138); all sixteen are assigned. -/
def decodeSystem (n : Nibble) : Instr :=
  if n = 0x0 then .sysexStart
  else if n = 0x1 then .quarterFrame
  else if n = 0x2 then .songPosition
  else if n = 0x3 then .songSelect
  else if n = 0x4 then .undefF4
  else if n = 0x5 then .undefF5
  else if n = 0x6 then .tuneRequest
  else if n = 0x7 then .sysexEnd
  else if n = 0x8 then .timingClock
  else if n = 0x9 then .undefF9
  else if n = 0xA then .midiStart
  else if n = 0xB then .midiContinue
  else if n = 0xC then .midiStop
  else if n = 0xD then .undefFD
  else if n = 0xE then .activeSensing
  else .systemReset

/-- A status byte, b[7] = 1: a channel message by its type nibble b[7:4], a system message by all eight bits (R91, R93).
PRESUMED: the numbers are the MIDI 1.0 assignments, which the spec takes from outside its source (notes/assumptions/10.md; unsafe
for hardware with other numbers). -/
def decodeStatus (b : Byte) : Instr :=
  let type := b.extractLsb' 4 4
  let n := b.extractLsb' 0 4
  if type = 0x8 then .noteOff n
  else if type = 0x9 then .noteOn n
  else if type = 0xA then .polyAftertouch n
  else if type = 0xB then .controlChange n
  else if type = 0xC then .programChange n
  else if type = 0xD then .channelAftertouch n
  else if type = 0xE then .pitchBend n
  else decodeSystem n

/-- A data byte, b[7] = 0, is selected by the parser state alone (R139). -/
def decodeData (m : MState) (v : Data7) : Instr :=
  match m with
  | .waitingForStatus => .dataWaitingForStatus v
  | .waitingForNoteOn => .dataWaitingForNoteOn v
  | .waitingForOnVelocity => .dataWaitingForOnVelocity v
  | .waitingForNoteOff => .dataWaitingForNoteOff v
  | .waitingForOffVelocity => .dataWaitingForOffVelocity v
  | .waitingForCCData1 => .dataWaitingForCCData1 v
  | .waitingForCCData2 => .dataWaitingForCCData2 v
  | .waitingForPedalData => .dataWaitingForPedalData v
  | .waitingForData1Only => .dataWaitingForData1Only v
  | .waitingForData1Of2 => .dataWaitingForData1Of2 v
  | .waitingForData2 => .dataWaitingForData2 v
  | .collectSysExData => .dataCollectSysExData v

/-- BYTE(b): a byte with the high bit set is always a status byte (R91, R120). No byte value is refused (R94). -/
def decodeByte (m : MState) (b : Byte) : Instr :=
  if b.getLsbD 7 then decodeStatus b else decodeData m (b.setWidth 7)

/-- The operation an opcode byte names under CFG, if any (R104, R106). -/
def opcodeOf (c : Cfg) (op : Byte) : Option HostOp :=
  HostOp.all.find? (fun k => c.opcodes.code k == op)

/-- HOSTREQ: the prefix is tested first, then the opcode (R280, R341). -/
def decodeRequest (c : Cfg) (pfx op : Byte) (a : HostArgs) : Instr :=
  if pfx = c.CMD_PREFIX then
    match opcodeOf c op with
    | some k => k.instr a
    | none => .hostUnknownOpcode op a
  else .hostInvalidPrefix pfx op a

/-- The instruction of an event, given the parser state that selects a data byte's row. -/
def decode (c : Cfg) (m : MState) : Event → Except DecodeError Instr
  | .reset store0 => if store0.length = c.STORE_SIZE then .ok (.reset store0) else .error .storeImageLength
  | .byte b => .ok (decodeByte m b)
  | .tick lines => if lines.length = c.NL then .ok (.tick lines) else .error .tickLineCount
  | .hostreq [pfx, op, sq, p0, p1, p2, p3, p4] => .ok (decodeRequest c pfx op ⟨sq, p0, p1, p2, p3, p4⟩)
  | .hostreq _ => .error .requestLength
  | .linkerr => .ok .linkErr

/-! ### The encoder -/

/-- A status byte 0x80..0xFF from its two nibbles (R91). -/
def statusByte (type n : Nibble) : Byte := type ++ n

/-- A data byte: b[7] = 0 and b[6:0] the value (R92). -/
def dataByte (v : Data7) : Byte := (0 : BitVec 1) ++ v

/-- The eight bytes of a request (R100). -/
def requestBytes (pfx op : Byte) (a : HostArgs) : List Byte := [pfx, op, a.seq, a.p0, a.p1, a.p2, a.p3, a.p4]

/-- The request of a named operation with the valid prefix (R115's `HOST <mnemonic>`). -/
def hostRequest (c : Cfg) (k : HostOp) (a : HostArgs) : Event := .hostreq (requestBytes c.CMD_PREFIX (c.opcodes.code k) a)

/-- The event of an instruction (R91 to R93, R100, R104, R112). -/
def encode (c : Cfg) : Instr → Event
  | .noteOff n => .byte (statusByte 0x8 n)
  | .noteOn n => .byte (statusByte 0x9 n)
  | .polyAftertouch n => .byte (statusByte 0xA n)
  | .controlChange n => .byte (statusByte 0xB n)
  | .programChange n => .byte (statusByte 0xC n)
  | .channelAftertouch n => .byte (statusByte 0xD n)
  | .pitchBend n => .byte (statusByte 0xE n)
  | .sysexStart => .byte 0xF0
  | .quarterFrame => .byte 0xF1
  | .songPosition => .byte 0xF2
  | .songSelect => .byte 0xF3
  | .sysexEnd => .byte 0xF7
  | .timingClock => .byte 0xF8
  | .activeSensing => .byte 0xFE
  | .undefF4 => .byte 0xF4
  | .undefF5 => .byte 0xF5
  | .tuneRequest => .byte 0xF6
  | .undefF9 => .byte 0xF9
  | .midiStart => .byte 0xFA
  | .midiContinue => .byte 0xFB
  | .midiStop => .byte 0xFC
  | .undefFD => .byte 0xFD
  | .systemReset => .byte 0xFF
  | .dataWaitingForStatus v => .byte (dataByte v)
  | .dataWaitingForNoteOn v => .byte (dataByte v)
  | .dataWaitingForOnVelocity v => .byte (dataByte v)
  | .dataWaitingForNoteOff v => .byte (dataByte v)
  | .dataWaitingForOffVelocity v => .byte (dataByte v)
  | .dataWaitingForCCData1 v => .byte (dataByte v)
  | .dataWaitingForCCData2 v => .byte (dataByte v)
  | .dataWaitingForPedalData v => .byte (dataByte v)
  | .dataWaitingForData1Only v => .byte (dataByte v)
  | .dataWaitingForData1Of2 v => .byte (dataByte v)
  | .dataWaitingForData2 v => .byte (dataByte v)
  | .dataCollectSysExData v => .byte (dataByte v)
  | .getVersion a => hostRequest c .getVersion a
  | .getFeatures a => hostRequest c .getFeatures a
  | .enterCmdMode a => hostRequest c .enterCmdMode a
  | .exitCmdMode a => hostRequest c .exitCmdMode a
  | .getHold a => hostRequest c .getHold a
  | .setHold a => hostRequest c .setHold a
  | .getVelthr a => hostRequest c .getVelthr a
  | .setVelthr a => hostRequest c .setVelthr a
  | .getSwap a => hostRequest c .getSwap a
  | .setSwap a => hostRequest c .setSwap a
  | .getHhthr a => hostRequest c .getHhthr a
  | .setHhthr a => hostRequest c .setHhthr a
  | .getBank a => hostRequest c .getBank a
  | .setBank a => hostRequest c .setBank a
  | .getMap a => hostRequest c .getMap a
  | .setMap a => hostRequest c .setMap a
  | .forceOutput a => hostRequest c .forceOutput a
  | .readLine a => hostRequest c .readLine a
  | .hostUnknownOpcode op a => .hostreq (requestBytes c.CMD_PREFIX op a)
  | .hostInvalidPrefix pfx op a => .hostreq (requestBytes pfx op a)
  | .tick lines => .tick lines
  | .linkErr => .linkerr
  | .reset store0 => .reset store0

/-- The parser state that selects a data byte's row (R139); none for every other instruction, which is selected in all states. -/
def Instr.dataState : Instr → Option MState
  | .dataWaitingForStatus _ => some .waitingForStatus
  | .dataWaitingForNoteOn _ => some .waitingForNoteOn
  | .dataWaitingForOnVelocity _ => some .waitingForOnVelocity
  | .dataWaitingForNoteOff _ => some .waitingForNoteOff
  | .dataWaitingForOffVelocity _ => some .waitingForOffVelocity
  | .dataWaitingForCCData1 _ => some .waitingForCCData1
  | .dataWaitingForCCData2 _ => some .waitingForCCData2
  | .dataWaitingForPedalData _ => some .waitingForPedalData
  | .dataWaitingForData1Only _ => some .waitingForData1Only
  | .dataWaitingForData1Of2 _ => some .waitingForData1Of2
  | .dataWaitingForData2 _ => some .waitingForData2
  | .dataCollectSysExData _ => some .collectSysExData
  | .noteOff _ => none
  | .noteOn _ => none
  | .polyAftertouch _ => none
  | .controlChange _ => none
  | .programChange _ => none
  | .channelAftertouch _ => none
  | .pitchBend _ => none
  | .sysexStart => none
  | .quarterFrame => none
  | .songPosition => none
  | .songSelect => none
  | .sysexEnd => none
  | .timingClock => none
  | .activeSensing => none
  | .undefF4 => none
  | .undefF5 => none
  | .tuneRequest => none
  | .undefF9 => none
  | .midiStart => none
  | .midiContinue => none
  | .midiStop => none
  | .undefFD => none
  | .systemReset => none
  | .getVersion _ => none
  | .getFeatures _ => none
  | .enterCmdMode _ => none
  | .exitCmdMode _ => none
  | .getHold _ => none
  | .setHold _ => none
  | .getVelthr _ => none
  | .setVelthr _ => none
  | .getSwap _ => none
  | .setSwap _ => none
  | .getHhthr _ => none
  | .setHhthr _ => none
  | .getBank _ => none
  | .setBank _ => none
  | .getMap _ => none
  | .setMap _ => none
  | .forceOutput _ => none
  | .readLine _ => none
  | .hostUnknownOpcode _ _ => none
  | .hostInvalidPrefix _ _ _ => none
  | .tick _ => none
  | .linkErr => none
  | .reset _ => none

/-! ### Instruction words -/

/-- Byte `k` of a word, byte 0 the least significant. -/
def wordByte (w k : Nat) : Byte := BitVec.ofNat 8 (w >>> (8 * k))

/-- The event of a word of `nbits` bits, the format told by its length (R90: one length per kind): no bits for LINKERR; 8 bits
for BYTE; the table's 16 bits req[0]:req[1] with the prefix in the HIGH byte for HOSTREQ, the six bytes after them 0; 64 bits
for a whole HOSTREQ, byte 0 in bits 7:0 (92_eei_decisions.md D2); NL bits for TICK, line i in bit i; STORE_SIZE bytes for RESET. -/
def eventOfWord (c : Cfg) (nbits w : Nat) : Option Event :=
  if nbits = 0 then some .linkerr
  else if nbits = 8 then some (.byte (wordByte w 0))
  else if nbits = 16 then some (.hostreq [wordByte w 1, wordByte w 0, 0, 0, 0, 0, 0, 0])
  else if nbits = 64 then some (.hostreq ((List.range 8).map (wordByte w)))
  else if nbits = c.NL then some (.tick ((List.range c.NL).map (fun i => w.testBit i)))
  else if nbits = 8 * c.STORE_SIZE then some (.reset ((List.range c.STORE_SIZE).map (wordByte w)))
  else none

/-- The instruction the decoder reads from a table word under REFCFG, in the parser state after reset. -/
def decodeTableWord (nbits w : Nat) : Option Instr :=
  match eventOfWord refcfg nbits w with
  | none => none
  | some e =>
    match decode refcfg .waitingForStatus e with
    | .ok i => some i
    | .error _ => none

end Sys2Proof
end

