-- ==== Sys2Proof/Machine/State.lean ====
section
/-! DEFINITION. The state of MRLX-CORE (R20) as plain data, the reasons a step can stop, and the state after reset. -/
namespace Sys2Proof.Machine

/-- The persistent store: (address, byte) pairs in the canonical form of `Memory.wf` (R60). -/
abbrev Memory := List Host.Cell

/-- What an address that no pair lists reads as: the erased byte of the `blank` store of 95_test_vectors.md section 2.
DESIGN CHOICE (notes/assumptions/2.md): unsafe only for claims about a run from State.reset; a first RESET supplies every byte. -/
def Memory.blank : Byte := 0xFF

/-- The canonical form: addresses strictly rising, no pair equal to what an unlisted address reads as. -/
def Memory.wf : Memory → Bool
  | [] => true
  | [(_, v)] => v != Memory.blank
  | (a, v) :: (b, w) :: m => v != Memory.blank && decide (a < b) && Memory.wf ((b, w) :: m)

/-- A call on the PersistentStore interface (R8). -/
inductive StoreOp where
  /-- `get(addr)` (StoreRead, R14). -/
  | get (addr : Nat)
  /-- `set(addr, val)` (StoreWrite, R14). -/
  | set (addr : Nat) (val : Byte)
deriving DecidableEq, Repr

/-- A decoded event, the `optional Event` that `consume` returns (R121). -/
inductive MidiEvent where
  | noteOn (note vel : Data7)
  | noteOff (note : Data7)
  | pedal (pos : Data7)
deriving DecidableEq, Repr

/-- The parser registers (R22, R23, R25 to R28) and the per-event output list EVENTS (R121). The default values are R361's. -/
structure ParserRegs where
  mstate : MState := .waitingForStatus
  pendingNote : Data7 := 0
  lastType : Byte := 0
  onValid : Bool := false
  onNote : Data7 := 0
  onVel : Data7 := 0
  offValid : Bool := false
  offNote : Data7 := 0
  pedalPos : Data7 := 0
  sysexLen : Nat := 0
  sysexBuf : List Byte := []
  events : List MidiEvent := []
deriving DecidableEq, Repr

/-- The registers of one output channel (R30). -/
structure Channel where
  active : Bool := false
  count : Byte := 0
  lastVel : Data7 := 0
  trig : Bool := false
  forceOn : Bool := false
deriving DecidableEq, Repr

/-- CLASS[i], six flags (R34); all clear is Up. -/
structure BtnClass where
  pressed : Bool := false
  held : Bool := false
  heldLong : Bool := false
  heldSuperLong : Bool := false
  relPress : Bool := false
  relHold : Bool := false
deriving DecidableEq, Repr

/-- The registers of one button (R33 to R35). -/
structure Button where
  pressedRaw : Bool := false
  cls : BtnClass := {}
  run : BitVec 16 := 0
  changed : Bool := false
deriving DecidableEq, Repr

/-- MODE, the DeviceMode (R38). -/
inductive Mode where
  | play
  | programVelocity
  | programMap
  | programDuration
deriving DecidableEq, Repr

/-- The mode registers (R38 to R40). -/
structure ModeRegs where
  mode : Mode := .play
  progValid : Bool := false
  progCh : BitVec 7 := 0
  cmdMode : Bool := false
  logEn : Bool := false
  distress : Bool := false
deriving DecidableEq, Repr

/-- The configuration registers (R42). -/
structure ConfigRegs where
  holdDuration : Byte := 0
  velThreshold : Byte := 0
  activeBank : BitVec 1 := 0
  swapNote : Byte := 0
  hhThreshold : Byte := 0
deriving DecidableEq, Repr

/-- The host response registers RESP_X, RESP_Y, RESP_Z (R47). -/
structure RespRegs where
  x : Byte := 0
  y : Byte := 0
  z : Byte := 0
deriving DecidableEq, Repr

/-- HAT (R50). -/
inductive Hat where
  | neutral
  | n
  | ne
  | e
  | se
  | s
  | sw
  | w
  | nw
deriving DecidableEq, Repr

/-- The report registers (R50). -/
structure Report where
  outActive : List Bool := []
  velOut : List Byte := []
  btnMask : List Bool := []
  hat : Hat := .neutral
  axis0 : Byte := 0
  axis1 : Byte := 0
  axis2 : Byte := 0
  axis3 : Byte := 0
deriving DecidableEq, Repr

/-- The whole state (R20), with CFG beside it and the three fields of the model's own at the end. -/
structure State where
  /-- CFG, fixed for an execution (R10); no step changes it. -/
  cfg : Cfg
  parser : ParserRegs
  /-- One entry for each output channel, in order. -/
  channels : List Channel
  /-- One entry for each button, in order. -/
  buttons : List Button
  mode : ModeRegs
  config : ConfigRegs
  /-- The cache MAP: C rows of S bytes (R45). -/
  map : List (List Byte)
  resp : RespRegs
  /-- LINE_RAW (R48). -/
  lineRaw : List Bool
  report : Report
  /-- STORE (R60). -/
  store : Memory
  /-- The model's own: the store calls of the last event, in order (notes/assumptions/5.md). -/
  bus : List StoreOp
  /-- The model's own: the events presented and not yet executed (notes/assumptions/3.md). -/
  pending : List Event
  /-- The model's own: the first RESET of the execution has not run (notes/assumptions/4.md). -/
  awaitingReset : Bool
deriving DecidableEq, Repr

/-- Why a step stops with a fault. -/
inductive Fault where
  /-- Raised by an instruction that made an access to a store address at or above STORE_SIZE, which does not exist (R60, R67).
  Safe: under a CFG that meets R62 no event forms such an address, and `step` refuses every other CFG. -/
  | storeAddress (addr : Nat)
deriving DecidableEq, Repr

/-- Why a step is refused. -/
inductive Refusal where
  /-- Raised by an arm of `exec` whose instruction has no meaning yet. Safe: nothing is claimed of it. No arm is left so. -/
  | notModelled (mnemonic : String)
  /-- Raised by `step` at an event other than RESET before the first RESET (93_implementation_defined.md U1). Safe. -/
  | beforeFirstReset
  /-- Raised by `step` under a CFG that violates a constraint of R10 or R62 (93_implementation_defined.md U2). Safe. -/
  | invalidCfg
  /-- Raised by `step` at an argument that is no event of R90. Safe: the environment of R9 presents none. -/
  | malformedEvent (why : DecodeError)
deriving DecidableEq, Repr

/-- The store after `RESET store=blank` under REFCFG: the default image of 95_test_vectors.md section 2 less its 0xFF bytes. -/
def Memory.defaultImage : Memory :=
  [(0, 0x07), (1, 0x03), (2, 0x10), (3, 0x00), (5, 0x40),
   (8, 0x26), (9, 0x28), (12, 0x30), (13, 0x32), (16, 0x2D), (17, 0x2F), (20, 0x29), (21, 0x2B),
   (24, 0x24), (25, 0x23), (28, 0x2A), (29, 0x2E), (32, 0x31), (33, 0x39), (36, 0x2C),
   (40, 0x3C), (44, 0x3D), (48, 0x3E), (52, 0x3F), (56, 0x40), (60, 0x41), (64, 0x42), (68, 0x43)]

/-- The machine right after reset: the state S0 of 95_test_vectors.md section 2, the end of `RESET store=blank` under REFCFG
(R361, R363, R364). DESIGN CHOICE: REFCFG (notes/assumptions/1.md) and the blank store (notes/assumptions/2.md); unsafe for a
claim about this one state, while a statement about every state covers every CFG and every store. -/
def State.reset : State where
  cfg := refcfg
  parser := { sysexBuf := List.replicate 16 0 }
  channels := List.replicate 8 {}
  buttons := List.replicate 8 {}
  mode := { distress := true }
  config := { holdDuration := 3, velThreshold := 16, activeBank := 0, swapNote := 0xFF, hhThreshold := 64 }
  map := refcfg.DEFAULT_MAP0
  resp := {}
  lineRaw := List.replicate 10 false
  report := { outActive := List.replicate 8 false, velOut := List.replicate 8 0, btnMask := List.replicate 8 false }
  store := Memory.defaultImage
  bus := []
  pending := []
  awaitingReset := false

end Sys2Proof.Machine
end

