-- ==== Sys2Proof/Machine/Ops.lean ====
section
/-! DEFINITION. The named operations over the store and the registers that the event rules share.
Taking an exception and returning from one: the block has neither (R330, R342, R343), so no operation of that kind stands here;
the one indication that error cases share is `raiseDistress` (R337). -/
namespace Sys2Proof.Machine

/-- The outcome of an event on this machine. -/
abbrev Outcome := Host.Outcome State Fault Refusal

/-! ### The store as data -/

/-- The byte at an address: the listed one, else `Memory.blank`. -/
def Memory.read : Memory → Nat → Byte
  | [], _ => Memory.blank
  | (k, v) :: m, a => if k = a then v else Memory.read m a

/-- Writing a byte at an address keeps the canonical form: writing `Memory.blank` removes the pair. -/
def Memory.write : Memory → Nat → Byte → Memory
  | [], a, v => if v = Memory.blank then [] else [(a, v)]
  | (k, w) :: m, a, v =>
    if a < k then (if v = Memory.blank then (k, w) :: m else (a, v) :: (k, w) :: m)
    else if a = k then (if v = Memory.blank then m else (a, v) :: m)
    else (k, w) :: Memory.write m a v

/-- The store whose byte at address `k + i` is byte `i` of the image, and blank elsewhere. -/
def Memory.ofImage : List Byte → Nat → Memory
  | [], _ => []
  | b :: bs, k => if b = Memory.blank then Memory.ofImage bs (k + 1) else (k, b) :: Memory.ofImage bs (k + 1)

/-- The effect of a sequence of store calls on a store: each set in order; a get changes nothing (R66). -/
def Memory.replay (m : Memory) : List StoreOp → Memory
  | [] => m
  | .get _ :: ops => Memory.replay m ops
  | .set a v :: ops => Memory.replay (m.write a v) ops

/-! ### Store calls -/

/-- The address of a store call. -/
def StoreOp.addr : StoreOp → Nat
  | .get a => a
  | .set a _ => a

/-- StoreWrite(addr, v) (R14): one byte, one call, whether or not the byte differs (R66, R70). -/
def storeWrite (a : Nat) (v : Byte) (s : State) : State :=
  { s with store := s.store.write a v, bus := s.bus ++ [.set a v] }

/-- StoreWrite of each pair, in order. -/
def storeWrites (ws : List (Nat × Byte)) (s : State) : State :=
  ws.foldl (fun t w => storeWrite w.1 w.2 t) s

/-- StoreRead(addr) as a call: a read has no side effect (R66). The byte it returns is `s.store.read addr`. -/
def storeRead (a : Nat) (s : State) : State := { s with bus := s.bus ++ [.get a] }

/-- StoreRead of each address, in order. -/
def storeReads (as : List Nat) (s : State) : State := { s with bus := s.bus ++ as.map .get }

/-- The first address of the event's store calls that does not exist (R60: addresses are 0..STORE_SIZE-1). -/
def badAddress (s : State) : Option Nat :=
  (s.bus.map StoreOp.addr).find? (fun a => decide (s.cfg.STORE_SIZE ≤ a))

/-- The start of an event: its store calls are its own. -/
def beginEvent (s : State) : State := { s with bus := [] }

/-- One event: it is atomic (R75), and an access that does not exist is a fault. -/
def onEvent (s : State) (f : State → State) : Outcome :=
  let t := f (beginEvent s)
  match badAddress t with
  | none => .next t
  | some a => .fault (.storeAddress a)

/-! ### Register operations -/

/-- MSTATE <- m (R13). -/
def setMState (m : MState) (s : State) : State := { s with parser := { s.parser with mstate := m } }

/-- LAST_TYPE <- b (R25). -/
def setLastType (b : Byte) (s : State) : State := { s with parser := { s.parser with lastType := b } }

/-- EVENTS <- [], the start of every BYTE event (R120). -/
def clearEvents (s : State) : State := { s with parser := { s.parser with events := [] } }

/-- emit E (R14): append to EVENTS. -/
def emit (e : MidiEvent) (s : State) : State := { s with parser := { s.parser with events := s.parser.events ++ [e] } }

/-- DISTRESS <- 1: the distress indication is raised and operation continues (R337). -/
def raiseDistress (s : State) : State := { s with mode := { s.mode with distress := true } }

/-- The common response write of a request with a valid prefix: X and Y are 0, Z echoes the sequence number (R282). -/
def respond (a : HostArgs) (s : State) : State := { s with resp := ⟨0, 0, a.seq⟩ }

/-- RESP_X <- v. -/
def answerX (v : Byte) (s : State) : State := { s with resp := { s.resp with x := v } }

/-- RESP_Y <- v. -/
def answerY (v : Byte) (s : State) : State := { s with resp := { s.resp with y := v } }

/-! ### Configuration registers, written through (R42, R70) -/

/-- HOLD_DURATION <- v and its StoreWrite. -/
def writeHold (v : Byte) (s : State) : State :=
  storeWrite s.cfg.ADDR_HOLD v { s with config := { s.config with holdDuration := v } }

/-- VEL_THRESHOLD <- v and its StoreWrite. -/
def writeVelThreshold (v : Byte) (s : State) : State :=
  storeWrite s.cfg.ADDR_VELTHR v { s with config := { s.config with velThreshold := v } }

/-- SWAP_NOTE <- v and its StoreWrite. -/
def writeSwapNote (v : Byte) (s : State) : State :=
  storeWrite s.cfg.ADDR_SWAP v { s with config := { s.config with swapNote := v } }

/-- HH_THRESHOLD <- v and its StoreWrite. -/
def writeHhThreshold (v : Byte) (s : State) : State :=
  storeWrite s.cfg.ADDR_HHTHR v { s with config := { s.config with hhThreshold := v } }

end Sys2Proof.Machine
end

