-- ==== Sys2Proof/Machine/Operands.lean ====
section
/-! DEFINITION. Operand forms: how the bytes of an event become indices, values and addresses (R95, R105), the saturating
arithmetic of R322, and the codes of the symbolic registers. -/
namespace Sys2Proof.Machine

/-- A 7-bit value against 8-bit registers and cache bytes: zero-extended (R322). -/
def zext7 (v : Data7) : Byte := v.setWidth 8

/-- clamp(x, lo, hi) on unbounded integers; x may be negative (R12). -/
def clamp (x lo hi : Int) : Int := min (max x lo) hi

/-- A bit as a response byte (R104). -/
def bitByte (b : Bool) : Byte := if b then 1 else 0

/-- ACTIVE_BANK as a bank number. -/
def bankNum (b : BitVec 1) : Nat := b.toNat

/-- BANK_BASE[b] (R62). -/
def bankBase (c : Cfg) (b : Nat) : Nat := if b = 0 then c.BANK_BASE0 else c.BANK_BASE1

/-- slotAddr(b, ch, s) = BANK_BASE[b] + ch*S + s, on unbounded integers (R63). -/
def slotAddr (c : Cfg) (b ch s : Nat) : Nat := bankBase c b + ch * c.S + s

/-- The entry addresses of bank `b`, a row for each channel, ascending (R63). -/
def bankAddrs (c : Cfg) (b : Nat) : List (List Nat) :=
  (List.range c.C).map (fun ch => (List.range c.S).map (slotAddr c b ch))

/-- DEFAULT_MAP[b], the default-table ROM (R64). -/
def defaultTable (c : Cfg) (b : Nat) : List (List Byte) := if b = 0 then c.DEFAULT_MAP0 else c.DEFAULT_MAP1

/-- The StoreWrites that put default table `b` into bank `b`, in ascending address order (R182). -/
def defaultWrites (c : Cfg) (b : Nat) : List (Nat × Byte) :=
  (List.range c.C).flatMap (fun ch =>
    (List.range c.S).map (fun s => (slotAddr c b ch s, ((defaultTable c b).getD ch []).getD s c.UNASSIGNED)))

/-- The clamped threshold step: VEL_THRESHOLD plus `d`, within [0, 6*VEL_STEP] (R258, R259). -/
def velStep (c : Cfg) (v : Byte) (d : Int) : Byte :=
  BitVec.ofNat 8 (clamp (v.toNat + d) 0 (6 * c.VEL_STEP)).toNat

/-- The clamped duration step: HOLD_DURATION plus `d`, within [1, 6] (R262, R263). -/
def holdStep (v : Byte) (d : Int) : Byte := BitVec.ofNat 8 (clamp (v.toNat + d) 1 6).toNat

/-- PROG_CH after Up: min(PROG_CH + 1, C - 1) (R250). -/
def chanUp (c : Cfg) (ch : BitVec 7) : BitVec 7 := BitVec.ofNat 7 (min (ch.toNat + 1) (c.C - 1))

/-- PROG_CH after Down: max(PROG_CH - 1, 0) (R250). -/
def chanDown (ch : BitVec 7) : BitVec 7 := BitVec.ofNat 7 (ch.toNat - 1)

/-- The 4-bit codes of MSTATE (R108). -/
def mstateCode : MState → BitVec 4
  | .waitingForStatus => 0
  | .waitingForNoteOn => 1
  | .waitingForOnVelocity => 2
  | .waitingForNoteOff => 3
  | .waitingForOffVelocity => 4
  | .waitingForCCData1 => 5
  | .waitingForCCData2 => 6
  | .waitingForPedalData => 7
  | .waitingForData1Only => 8
  | .waitingForData1Of2 => 9
  | .waitingForData2 => 10
  | .collectSysExData => 11

/-- The 2-bit codes of MODE (R109). -/
def modeCode : Mode → BitVec 2
  | .play => 0
  | .programVelocity => 1
  | .programMap => 2
  | .programDuration => 3

end Sys2Proof.Machine
end

