-- ==== Sys2Proof/Machine/Flags.lean ====
section
/-! DEFINITION. The button classification flags, the block's only condition codes (R34), and their edges (R226). -/
namespace Sys2Proof.Machine

/-- The six flags at their bit positions in CLASS[i] (R34). -/
def classBits (k : BtnClass) : BitVec 6 :=
  BitVec.ofBool k.relHold ++ BitVec.ofBool k.relPress ++ BitVec.ofBool k.heldSuperLong ++ BitVec.ofBool k.heldLong ++
    BitVec.ofBool k.held ++ BitVec.ofBool k.pressed

/-- The source's seven-valued classification (R33). -/
inductive Classification where
  | up
  | pressed
  | held
  | heldLong
  | heldSuperLong
  | releasedFromPress
  | releasedFromHold
deriving DecidableEq, Repr

/-- The name of the highest flag set, Up when none is (R34). -/
def classification (k : BtnClass) : Classification :=
  if k.relHold then .releasedFromHold
  else if k.relPress then .releasedFromPress
  else if k.heldSuperLong then .heldSuperLong
  else if k.heldLong then .heldLong
  else if k.held then .held
  else if k.pressed then .pressed
  else .up

/-- rose = after AND NOT before, flag by flag (R226). -/
def roseOf (before after : BtnClass) : BtnClass where
  pressed := after.pressed && !before.pressed
  held := after.held && !before.held
  heldLong := after.heldLong && !before.heldLong
  heldSuperLong := after.heldSuperLong && !before.heldSuperLong
  relPress := after.relPress && !before.relPress
  relHold := after.relHold && !before.relHold

/-- The classification after a release: {REL_HOLD} when HELD was set, {REL_PRESS} otherwise (R221). -/
def releaseClass (k : BtnClass) : BtnClass :=
  if k.held then { relHold := true } else { relPress := true }

/-- Escalation while pressed at run length `run` (R223): the release flags are dropped, PRESSED is set, each hold flag is set
once its threshold is reached, and a flag once set stays set. -/
def escalateClass (c : Cfg) (run : Nat) (k : BtnClass) : BtnClass where
  pressed := true
  held := k.held || decide (c.T_HELD ≤ run)
  heldLong := k.heldLong || decide (c.T_LONG ≤ run)
  heldSuperLong := k.heldSuperLong || decide (c.T_SUPER ≤ run)
  relPress := false
  relHold := false

/-- Decay after release: a Released value becomes Up, anything else stays (R224). -/
def decayClass (k : BtnClass) : BtnClass := if k.relPress || k.relHold then {} else k

end Sys2Proof.Machine
end

