-- ==== Sys2Proof/Machine/NoteMap.lean ====
section
/-! DEFINITION. The NoteMap operations (41_notemap.md): the cache, the programming sequencer, lookup, defaults and banks. -/
namespace Sys2Proof.Machine

/-- `get(ch, s)` reads the cache (R171). Every caller checks the bounds first, so the answer out of range is never used. -/
def mapGet (s : State) (ch sl : Nat) : Byte := (s.map.getD ch []).getD sl 0

/-- The cache with element (ch, sl) replaced. -/
def cacheSet (m : List (List Byte)) (ch sl : Nat) (n : Byte) : List (List Byte) := m.modify ch (fun row => row.set sl n)

/-- `set(ch, s, n)`: cache element and StoreWrite in the active bank, always both; out of range is ignored (R172). -/
def mapSet (ch sl : Nat) (n : Byte) (s : State) : State :=
  if ch < s.cfg.C ∧ sl < s.cfg.S then
    storeWrite (slotAddr s.cfg (bankNum s.config.activeBank) ch sl) n { s with map := cacheSet s.map ch sl n }
  else s

/-- What the scan of a channel's slots finds (R174). -/
inductive Scan where
  | duplicate
  | free (i : Nat)
  | full
deriving DecidableEq, Repr

/-- The scan of R174 from slot `i`: it stops at the first sentinel or at a copy of the note. -/
def scanSlots (u note : Byte) : List Byte → Nat → Scan
  | [], _ => .full
  | b :: bs, i => if b = u then .free i else if b = note then .duplicate else scanSlots u note bs (i + 1)

/-- What `addMapping` returns: the occupied count, 0 for a duplicate, or Error (R174). -/
inductive AddResult where
  | occupied (n : Nat)
  | duplicate
  | error
deriving DecidableEq, Repr

/-- `addMapping(ch, note, velocity, append)` (R174). The velocity is ignored; append = false is refused: Error, no effect
(93_implementation_defined.md U3). The note is written before the sentinel that re-marks the end of the list. -/
def addMapping (ch : Nat) (note : Data7) (_velocity : Data7) (append : Bool) (s : State) : AddResult × State :=
  if append = false ∨ s.cfg.C ≤ ch then (.error, s)
  else
    match scanSlots s.cfg.UNASSIGNED (zext7 note) (s.map.getD ch []) 0 with
    | .duplicate => (.duplicate, s)
    | .free i =>
      let t := mapSet ch i (zext7 note) s
      (.occupied (i + 1), if i + 1 < s.cfg.S then mapSet ch (i + 1) s.cfg.UNASSIGNED t else t)
    | .full => (.occupied s.cfg.S, mapSet ch (s.cfg.S - 1) (zext7 note) s)

/-- The slot prefix of a channel: the slots before the first sentinel (R17). -/
def slotPrefix (u : Byte) (row : List Byte) : List Byte := row.takeWhile (fun b => decide (b ≠ u))

/-- The inner loop of `lookup`: the note stands in the row before the first sentinel (R176). -/
def rowHas (u note : Byte) : List Byte → Bool
  | [] => false
  | b :: bs => if b = u then false else if b = note then true else rowHas u note bs

/-- The outer loop of `lookup` over the rows from channel `ch` on (R176). -/
def lookupFrom (u note : Byte) : List (List Byte) → Nat → Option Nat
  | [], _ => none
  | row :: rows, ch => if rowHas u note row then some ch else lookupFrom u note rows (ch + 1)

/-- `lookup(note, start)`: the first channel at or above `start` whose slot prefix holds the note (R176). -/
def lookup (u : Byte) (m : List (List Byte)) (note : Byte) (start : Nat) : Option Nat :=
  lookupFrom u note (m.drop start) start

/-- `clearChannel(ch)`: the sentinel into slot 0 (R180). -/
def clearChannel (ch : Nat) (s : State) : State :=
  if ch < s.cfg.C then mapSet ch 0 s.cfg.UNASSIGNED s else s

/-- `restoreDefaults(b)`: default table `b` into bank `b` of the store, and into the cache when `b` is active (R182). -/
def restoreDefaults (b : Nat) (s : State) : State :=
  if 1 < b then s
  else
    let t := storeWrites (defaultWrites s.cfg b) s
    if b = bankNum s.config.activeBank then { t with map := defaultTable s.cfg b } else t

/-- The bytes of bank `b`'s region of the store, as a cache (R79). -/
def loadBank (c : Cfg) (m : Memory) (b : Nat) : List (List Byte) := (bankAddrs c b).map (fun row => row.map m.read)

/-- `switchBank(b, reloadFromStore)` (R184): ACTIVE_BANK, and with reload the whole cache from the bank's region. -/
def switchBank (b : Nat) (reload : Bool) (s : State) : State :=
  if 1 < b then s
  else
    let t := { s with config := { s.config with activeBank := BitVec.ofNat 1 b } }
    if reload then storeReads (bankAddrs s.cfg b).flatten { t with map := loadBank s.cfg s.store b } else t

/-- `selectBank(b)`: switchBank with reload, then the bank number is persisted (R186). -/
def selectBank (b : Nat) (s : State) : State :=
  if 1 < b then s else storeWrite s.cfg.ADDR_BANK (BitVec.ofNat 8 b) (switchBank b true s)

/-- The active bank is cycled: selectBank(1 - ACTIVE_BANK) (R142, R248). -/
def cycleBank (s : State) : State := selectBank (1 - bankNum s.config.activeBank) s

end Sys2Proof.Machine
end

