-- ==== Sys2Proof/Machine/Shaper.lean ====
section
/-! DEFINITION. The OutputShaper (42_output_shaper.md): activation, the hold-pulse timer, the velocity multiplexer, the pedal comparison. -/
namespace Sys2Proof.Machine

/-- TRIG[ch] <- 1; LASTVEL[ch] <- v (R200). -/
def activate (ch : Nat) (v : Data7) (chs : List Channel) : List Channel :=
  chs.modify ch (fun x => { x with trig := true, lastVel := v })

/-- The loop of ActivateAll (R200), `found` the last answer of `lookup`; the fuel bounds the number of answers. -/
def activateLoop (u : Byte) (m : List (List Byte)) (note : Byte) (v : Data7) : Nat → Option Nat → List Channel → List Channel
  | 0, _, chs => chs
  | _ + 1, none, chs => chs
  | fuel + 1, some ch, chs => activateLoop u m note v fuel (lookup u m note (ch + 1)) (activate ch v chs)

/-- `ActivateAll(n, v)`: every channel whose slot prefix holds the note, each once, ascending (R177, R200). Answers of `lookup`
ascend, so at most as many as the cache has rows exist. -/
def activateAll (n v : Data7) (s : State) : State :=
  { s with channels :=
      activateLoop s.cfg.UNASSIGNED s.map (zext7 n) v s.map.length (lookup s.cfg.UNASSIGNED s.map (zext7 n) 0) s.channels }

/-- The duration function dur(ch, v) in ticks (R202). -/
def dur (c : Cfg) (hold : Byte) (ch : Nat) (v : Data7) : Byte :=
  match c.DUR_MODE with
  | .fixed => hold
  | .velocityDerived =>
    match c.ROLE.getD ch .pad with
    | .pedal => c.PEDAL_PULSE
    | .cymbal => BitVec.ofNat 8 (5 + 20 * v.toNat / 127)
    | .pad => BitVec.ofNat 8 (v.toNat / 12)

/-- The load of R203. -/
def loadPulse (c : Cfg) (hold : Byte) (ch : Nat) (x : Channel) : Channel :=
  if x.trig then { x with count := dur c hold ch x.lastVel, trig := false } else x

/-- The count of R204. -/
def countPulse (x : Channel) : Channel :=
  if 0 < x.count.toNat then { x with active := true, count := x.count - 1 } else { x with active := false }

/-- `ShaperTick()`: for each channel first the load, then the count (R201). -/
def shaperTick (s : State) : State :=
  { s with channels := s.channels.mapIdx (fun ch x => countPulse (loadPulse s.cfg s.config.holdDuration ch x)) }

/-- The velocity transform (R205). -/
def xform (c : Cfg) (v : Data7) : Byte :=
  match c.VEL_XFORM with
  | .identity => zext7 v
  | .inverted => BitVec.ofNat 8 (255 - 2 * v.toNat)

/-- The reported velocity: the pulse alone selects it (R206). -/
def velout (c : Cfg) (x : Channel) : Byte := if x.active then xform c x.lastVel else 0

/-- The pedal comparison, both sides zero-extended (R207). -/
def pedal (c : Cfg) (pos : Data7) (thr : Byte) (ch : Nat) : Bool :=
  c.PEDAL_OR && decide (c.HH_CH = some ch) && decide (thr.toNat ≤ pos.toNat)

/-- The channel output (R208). -/
def outactive (s : State) (ch : Nat) (x : Channel) : Bool :=
  x.active || x.forceOn || pedal s.cfg s.parser.pedalPos s.config.hhThreshold ch

end Sys2Proof.Machine
end

