-- ==== Sys2Proof/Machine/Debouncer.lean ====
section
/-! DEFINITION. The ButtonDebouncer (43_button_debouncer.md). -/
namespace Sys2Proof.Machine

/-- The classification after a stable sample that has made the run length `run` (R222 to R224). -/
def stableClass (c : Cfg) (raw : Bool) (run : Nat) (k : BtnClass) : BtnClass :=
  if run < c.T_PRESS then k else if raw then escalateClass c run k else decayClass k

/-- RUN saturating at T_SUPER (R222). -/
def nextRun (c : Cfg) (run : BitVec 16) : Nat := min (run.toNat + 1) c.T_SUPER

/-- The classification after a raw change to `p` (R221): a press leaves it. -/
def rawChangeClass (p : Bool) (k : BtnClass) : BtnClass := if p then k else releaseClass k

/-- `ButtonStep(i, p)` (R220). -/
def buttonStep (c : Cfg) (b : Button) (p : Bool) : Button :=
  if p ≠ b.pressedRaw then
    let k := rawChangeClass p b.cls
    { pressedRaw := p, cls := k, run := 0, changed := decide (k ≠ b.cls) }
  else
    let run := nextRun c b.run
    let k := stableClass c b.pressedRaw run b.cls
    { pressedRaw := b.pressedRaw, cls := k, run := BitVec.ofNat 16 run, changed := decide (k ≠ b.cls) }

/-- Step 1 of TICK: every button with the sample of its own line (R240). -/
def stepButtons (c : Cfg) (bs : List Button) (lines : List Bool) : List Button :=
  bs.mapIdx (fun i b => buttonStep c b (lines.getD i false))

/-- rose[i] of the TICK that took the buttons from `before` to `after` (R226); no edge where there is no button. -/
def roseAt (before after : List Button) (i : Nat) : BtnClass :=
  match before[i]?, after[i]? with
  | some b, some a => roseOf b.cls a.cls
  | _, _ => {}

end Sys2Proof.Machine
end

