-- ==== Sys2Proof/Machine/ModeController.lean ====
section
/-! DEFINITION. The ModeController, the report and the TICK event (44_mode_controller.md). `rose i` is the set of flag edges of
button i on this TICK (R226). -/
namespace Sys2Proof.Machine

/-- The operation runs when its edge fired. -/
def onEdge (fired : Bool) (f : State → State) (s : State) : State := if fired then f s else s

/-- Transition(): the new mode registers if a transition fires; the toggle button is tested first (R242). -/
def transition (c : Cfg) (rose : Nat → BtnClass) (m : ModeRegs) : Option ModeRegs :=
  if (rose c.BTN_MODE).held = true ∧ m.mode = .play then some { m with mode := .programMap, progValid := true, progCh := 0 }
  else if (rose c.BTN_MODE).held = true ∧ m.mode = .programMap then some { m with mode := .play, progValid := false }
  else if (rose c.BTN_CYCLE).held = true then
    match m.mode with
    | .play => none
    | .programMap => some { m with mode := .programVelocity }
    | .programVelocity => some { m with mode := .programDuration }
    | .programDuration => some { m with mode := .programMap }
  else none

/-- The swap gesture of Play (R248). -/
def playActions (rose : Nat → BtnClass) (s : State) : State :=
  match s.cfg.BTN_SWAP with
  | none => s
  | some i => onEdge (rose i).held cycleBank s

/-- PROG_CH <- min(PROG_CH + 1, C - 1) (R250). -/
def progChUp (s : State) : State := { s with mode := { s.mode with progCh := chanUp s.cfg s.mode.progCh } }

/-- PROG_CH <- max(PROG_CH - 1, 0) (R250). -/
def progChDown (s : State) : State := { s with mode := { s.mode with progCh := chanDown s.mode.progCh } }

/-- clearChannel(PROG_CH) (R254). -/
def clearSelected (s : State) : State := clearChannel s.mode.progCh.toNat s

/-- restoreDefaults(ACTIVE_BANK) (R255). -/
def restoreActive (s : State) : State := restoreDefaults (bankNum s.config.activeBank) s

/-- MapActions(): Up, Down, Left, Right, cancel held long, cancel held super-long (R250 to R255). -/
def mapActions (rose : Nat → BtnClass) (s : State) : State :=
  let c := s.cfg
  onEdge (rose c.BTN_CANCEL).heldSuperLong restoreActive
    (onEdge (rose c.BTN_CANCEL).heldLong clearSelected
      (onEdge (rose c.BTN_RIGHT).pressed (selectBank 1)
        (onEdge (rose c.BTN_LEFT).pressed (selectBank 0)
          (onEdge (rose c.BTN_DOWN).pressed progChDown
            (onEdge (rose c.BTN_UP).pressed progChUp s)))))

/-- VEL_THRESHOLD moved by `d` and persisted (R258, R259). -/
def moveVelThreshold (d : Int) (s : State) : State := writeVelThreshold (velStep s.cfg s.config.velThreshold d) s

/-- VelocityActions(): Up, Down, cancel held (R258 to R260). -/
def velocityActions (rose : Nat → BtnClass) (s : State) : State :=
  let c := s.cfg
  onEdge (rose c.BTN_CANCEL).held (writeVelThreshold c.DEF_VELTHR)
    (onEdge (rose c.BTN_DOWN).pressed (moveVelThreshold (-(c.VEL_STEP : Int)))
      (onEdge (rose c.BTN_UP).pressed (moveVelThreshold (c.VEL_STEP : Int)) s))

/-- HOLD_DURATION moved by `d` and persisted (R262, R263). -/
def moveHold (d : Int) (s : State) : State := writeHold (holdStep s.config.holdDuration d) s

/-- DurationActions(): Up, Down, cancel held (R262 to R264). -/
def durationActions (rose : Nat → BtnClass) (s : State) : State :=
  let c := s.cfg
  onEdge (rose c.BTN_CANCEL).held (writeHold c.DEF_HOLD)
    (onEdge (rose c.BTN_DOWN).pressed (moveHold (-1)) (onEdge (rose c.BTN_UP).pressed (moveHold 1) s))

/-- The actions of the current mode (R241). -/
def modeActions (rose : Nat → BtnClass) (s : State) : State :=
  match s.mode.mode with
  | .play => playActions rose s
  | .programMap => mapActions rose s
  | .programVelocity => velocityActions rose s
  | .programDuration => durationActions rose s

/-- `ModeStep()`, step 2 of TICK: nothing in command mode; a transition ends the step; else the mode's actions (R241, R244). -/
def modeStep (rose : Nat → BtnClass) (s : State) : State :=
  if s.mode.cmdMode then s
  else
    match transition s.cfg rose s.mode with
    | some m => { s with mode := m }
    | none => modeActions rose s

/-- The reported button value btn(i) (R272). -/
def btnReport (m : ModeRegs) (b : Button) : Bool :=
  if m.cmdMode then b.pressedRaw else if m.mode = .play then b.cls.pressed else false

/-- The direction of a pair of opposite buttons: opposite buttons cancel (R273). -/
inductive Sign where
  | neg
  | zero
  | pos
deriving DecidableEq, Repr

/-- `p - n` for two bits. -/
def signOf (p n : Bool) : Sign :=
  match p, n with
  | true, false => .pos
  | false, true => .neg
  | true, true => .zero
  | false, false => .zero

/-- hat(u, d, l, r) with v = u - d and h = r - l (R273). -/
def hatOf (u d l r : Bool) : Hat :=
  match signOf u d, signOf r l with
  | .zero, .zero => .neutral
  | .pos, .zero => .n
  | .pos, .pos => .ne
  | .zero, .pos => .e
  | .neg, .pos => .se
  | .neg, .zero => .s
  | .neg, .neg => .sw
  | .zero, .neg => .w
  | .pos, .neg => .nw

/-- `ReportStep()`, step 4 of TICK: latches the outputs (R270). -/
def reportStep (s : State) : State :=
  let btn := s.buttons.map (btnReport s.mode)
  { s with report :=
      { outActive := s.channels.mapIdx (outactive s)
        velOut := s.channels.map (velout s.cfg)
        btnMask := btn
        hat := hatOf (btn.getD s.cfg.BTN_UP false) (btn.getD s.cfg.BTN_DOWN false) (btn.getD s.cfg.BTN_LEFT false)
          (btn.getD s.cfg.BTN_RIGHT false)
        axis0 := s.resp.x
        axis1 := s.resp.y
        axis2 := s.resp.z
        axis3 := 0 } }

/-- Step 1 of TICK: LINE_RAW <- lines and every button steps (R240). -/
def sampleStep (lines : List Bool) (s : State) : State :=
  { s with lineRaw := lines, buttons := stepButtons s.cfg s.buttons lines }

/-- The edges of the TICK that samples `lines` in state `s` (R226). -/
def tickRose (lines : List Bool) (s : State) : Nat → BtnClass := roseAt s.buttons (stepButtons s.cfg s.buttons lines)

/-- TICK(lines): sample and debounce, mode control, output shaping, report (R240). -/
def tickEvent (lines : List Bool) (s : State) : State :=
  reportStep (shaperTick (modeStep (tickRose lines s) (sampleStep lines s)))

/-- TICK (R240). -/
def execTick (lines : List Bool) (s : State) : Outcome := onEvent s (tickEvent lines)

end Sys2Proof.Machine
end

