-- ==== Sys2Proof/Machine/Parser.lean ====
section
/-! DEFINITION. The BYTE event family, the MidiParser (40_midi_parser.md): one meaning for each status byte and for a data byte
in each parser state. -/
namespace Sys2Proof.Machine

/-- A BYTE event first clears EVENTS (R120). -/
def onByte (s : State) (f : State → State) : Outcome := onEvent s (fun t => f (clearEvents t))

/-- A status byte with a handler: LAST_TYPE and MSTATE, whatever the state before (R123). -/
def handledStatus (type : Byte) (m : MState) (s : State) : State := setMState m (setLastType type s)

/-- A no-op status byte: the parser is back in WaitingForStatus and nothing else changes (R134, R138). -/
def noopStatus (s : State) : State := setMState .waitingForStatus s

/-- SYSEX_LEN <- 0; the bytes keep their old values (R130). -/
def resetSysex (s : State) : State := { s with parser := { s.parser with sysexLen := 0 } }

/-! ### Status bytes -/

/-- NOTE_OFF status (R124). -/
def execNoteOff (_n : Nibble) (s : State) : Outcome := onByte s (handledStatus 0x80 .waitingForNoteOff)

/-- NOTE_ON status (R125). -/
def execNoteOn (_n : Nibble) (s : State) : Outcome := onByte s (handledStatus 0x90 .waitingForNoteOn)

/-- POLY_AFTERTOUCH status (R126). -/
def execPolyAftertouch (_n : Nibble) (s : State) : Outcome := onByte s (handledStatus 0xA0 .waitingForData1Of2)

/-- CONTROL_CHANGE status (R127). -/
def execControlChange (_n : Nibble) (s : State) : Outcome := onByte s (handledStatus 0xB0 .waitingForCCData1)

/-- PROGRAM_CHANGE status (R128). -/
def execProgramChange (_n : Nibble) (s : State) : Outcome := onByte s (handledStatus 0xC0 .waitingForData1Only)

/-- CHANNEL_AFTERTOUCH status (R129). -/
def execChannelAftertouch (_n : Nibble) (s : State) : Outcome := onByte s (handledStatus 0xD0 .waitingForData1Only)

/-- PITCH_BEND status (R131). -/
def execPitchBend (_n : Nibble) (s : State) : Outcome := onByte s (handledStatus 0xE0 .waitingForData1Of2)

/-- SYSEX_START status (R130). -/
def execSysexStart (s : State) : Outcome := onByte s (fun t => handledStatus 0xF0 .collectSysExData (resetSysex t))

/-- QUARTER_FRAME status (R132). -/
def execQuarterFrame (s : State) : Outcome := onByte s (handledStatus 0xF1 .waitingForData1Only)

/-- SONG_POSITION status (R133). -/
def execSongPosition (s : State) : Outcome := onByte s (handledStatus 0xF2 .waitingForData1Of2)

/-- SONG_SELECT status (R136). -/
def execSongSelect (s : State) : Outcome := onByte s (handledStatus 0xF3 .waitingForData1Only)

/-- SYSEX_END status: SYSEX_LEN and SYSEX_BUF are left as collected (R137). -/
def execSysexEnd (s : State) : Outcome := onByte s (handledStatus 0xF7 .waitingForStatus)

/-- TIMING_CLOCK status, a no-op (R134). -/
def execTimingClock (s : State) : Outcome := onByte s noopStatus

/-- ACTIVE_SENSING status, a no-op (R135). -/
def execActiveSensing (s : State) : Outcome := onByte s noopStatus

/-- 0xF4, a no-op (R138). -/
def execUndefF4 (s : State) : Outcome := onByte s noopStatus

/-- 0xF5, a no-op (R138). -/
def execUndefF5 (s : State) : Outcome := onByte s noopStatus

/-- 0xF6, a no-op (R138). -/
def execTuneRequest (s : State) : Outcome := onByte s noopStatus

/-- 0xF9, a no-op (R138). -/
def execUndefF9 (s : State) : Outcome := onByte s noopStatus

/-- 0xFA, a no-op (R138). -/
def execMidiStart (s : State) : Outcome := onByte s noopStatus

/-- 0xFB, a no-op (R138). -/
def execMidiContinue (s : State) : Outcome := onByte s noopStatus

/-- 0xFC, a no-op (R138). -/
def execMidiStop (s : State) : Outcome := onByte s noopStatus

/-- 0xFD, a no-op (R138). -/
def execUndefFD (s : State) : Outcome := onByte s noopStatus

/-- 0xFF, a no-op: it does not reset the hardware (R138). -/
def execSystemReset (s : State) : Outcome := onByte s noopStatus

/-! ### Data bytes -/

/-- PENDING_NOTE <- d. -/
def setPending (d : Data7) (s : State) : State := { s with parser := { s.parser with pendingNote := d } }

/-- OFF_VALID <- 0; OFF_NOTE keeps its value (R140, R27). DESIGN CHOICE (notes/assumptions/21.md): the spec differs with itself
here, since R18 lets OFF_* change only when a whole message is complete; the model follows R140. Unsafe for a claim that takes
R18's clause of OFF_VALID. -/
def clearOff (s : State) : State := { s with parser := { s.parser with offValid := false } }

/-- OFF_NOTE <- n; OFF_VALID <- 1. -/
def recordOff (n : Data7) (s : State) : State := { s with parser := { s.parser with offNote := n, offValid := true } }

/-- ON_VALID <- 0. -/
def invalidateOn (s : State) : State := { s with parser := { s.parser with onValid := false } }

/-- ON_NOTE <- n; ON_VEL <- v; ON_VALID <- 1. -/
def recordOn (n v : Data7) (s : State) : State :=
  { s with parser := { s.parser with onNote := n, onVel := v, onValid := true } }

/-- PEDAL_POS <- d. -/
def setPedal (d : Data7) (s : State) : State := { s with parser := { s.parser with pedalPos := d } }

/-- The bounded append of R150: once full, bytes are dropped. -/
def appendSysex (d : Data7) (s : State) : State :=
  if s.parser.sysexLen < s.cfg.SYSEX_CAP then
    { s with parser :=
        { s.parser with
          sysexBuf := s.parser.sysexBuf.set s.parser.sysexLen (zext7 d)
          sysexLen := s.parser.sysexLen + 1 } }
  else s

/-- RouteNoteOn(n, v) in Play: the swap note cycles the bank and activates nothing, any other note activates (R142). -/
def routePlay (n v : Data7) (s : State) : State :=
  if zext7 n = s.config.swapNote then cycleBank s else activateAll n v s

/-- RouteNoteOn(n, v), by MODE at the moment of the event (R142). -/
def routeNoteOn (n v : Data7) (s : State) : State :=
  match s.mode.mode with
  | .play => routePlay n v s
  | .programMap => (addMapping s.mode.progCh.toNat n v true s).2
  | .programVelocity => s
  | .programDuration => s

/-- A velocity that qualifies: v > 0 and v ≥ VEL_THRESHOLD, unsigned (R17, R141). -/
def qualifies (v : Data7) (thr : Byte) : Bool := decide (0 < v.toNat) && decide (thr.toNat ≤ v.toNat)

/-- A velocity byte completes a Note-On (R141): velocity 0 is a note-off, a qualifying velocity is recorded, emitted and routed,
any other changes nothing. -/
def completeNoteOn (v : Data7) (s : State) : State :=
  let n := s.parser.pendingNote
  if v = 0 then emit (.noteOff n) (invalidateOn (recordOff n s))
  else if qualifies v s.config.velThreshold then routeNoteOn n v (emit (.noteOn n v) (recordOn n v s))
  else s

/-- Data byte in WaitingForStatus: absorbed, nothing changes (R152, R331). -/
def execDataWaitingForStatus (_v : Data7) (s : State) : Outcome := onByte s (fun t => t)

/-- Data byte in WaitingForNoteOn: the pending note (R140). -/
def execDataWaitingForNoteOn (v : Data7) (s : State) : Outcome :=
  onByte s (fun t => setMState .waitingForOnVelocity (clearOff (setPending v t)))

/-- Data byte in WaitingForOnVelocity: the velocity (R141). -/
def execDataWaitingForOnVelocity (v : Data7) (s : State) : Outcome :=
  onByte s (fun t => setMState .waitingForNoteOn (completeNoteOn v t))

/-- Data byte in WaitingForNoteOff: the pending note (R143). -/
def execDataWaitingForNoteOff (v : Data7) (s : State) : Outcome :=
  onByte s (fun t => setMState .waitingForOffVelocity (setPending v t))

/-- Data byte in WaitingForOffVelocity: the note-off is committed, the release velocity discarded (R144). -/
def execDataWaitingForOffVelocity (_v : Data7) (s : State) : Outcome :=
  onByte s (fun t => setMState .waitingForStatus (emit (.noteOff t.parser.pendingNote) (recordOff t.parser.pendingNote t)))

/-- Data byte in WaitingForCCData1: the controller number (R145). -/
def execDataWaitingForCCData1 (v : Data7) (s : State) : Outcome :=
  onByte s (fun t => setMState (if v = t.cfg.HH_CC then .waitingForPedalData else .waitingForCCData2) t)

/-- Data byte in WaitingForCCData2: discarded (R146). -/
def execDataWaitingForCCData2 (_v : Data7) (s : State) : Outcome := onByte s (setMState .waitingForStatus)

/-- Data byte in WaitingForPedalData: the pedal position (R147). -/
def execDataWaitingForPedalData (v : Data7) (s : State) : Outcome :=
  onByte s (fun t => setMState .waitingForStatus (emit (.pedal v) (setPedal v t)))

/-- Data byte in WaitingForData1Only: discarded (R148). -/
def execDataWaitingForData1Only (_v : Data7) (s : State) : Outcome := onByte s (setMState .waitingForStatus)

/-- Data byte in WaitingForData1Of2: discarded, one more follows (R149). -/
def execDataWaitingForData1Of2 (_v : Data7) (s : State) : Outcome := onByte s (setMState .waitingForData2)

/-- Data byte in WaitingForData2: discarded (R151). -/
def execDataWaitingForData2 (_v : Data7) (s : State) : Outcome := onByte s (setMState .waitingForStatus)

/-- Data byte in CollectSysExData: appended if there is room; MSTATE stays (R150). -/
def execDataCollectSysExData (v : Data7) (s : State) : Outcome := onByte s (appendSysex v)

end Sys2Proof.Machine
end

