-- ==== Sys2Proof/Machine/HostCommands.lean ====
section
/-! DEFINITION. The HostCommandProcessor (45_host_commands.md): one meaning for each opcode, the unknown opcode and the invalid prefix. -/
namespace Sys2Proof.Machine

/-- A request with a valid prefix: the common response write, then the opcode's own rule (R280, R282). -/
def onRequest (a : HostArgs) (s : State) (f : State → State) : Outcome := onEvent s (fun t => f (respond a t))

/-- GET_VERSION (R286). -/
def execGetVersion (a : HostArgs) (s : State) : Outcome :=
  onRequest a s (fun t => answerY t.cfg.VERSION_MINOR (answerX t.cfg.VERSION_MAJOR t))

/-- GET_FEATURES: X is bits 7:0, Y bits 15:8 (R288). -/
def execGetFeatures (a : HostArgs) (s : State) : Outcome :=
  onRequest a s (fun t => answerY (t.cfg.FEATURES.extractLsb' 8 8) (answerX (t.cfg.FEATURES.extractLsb' 0 8) t))

/-- CMD_MODE <- 1; MODE <- Play; PROG_VALID <- 0 (R290). -/
def enterCommandMode (s : State) : State :=
  { s with mode := { s.mode with cmdMode := true, mode := .play, progValid := false } }

/-- CMD_MODE <- 0; LOG_EN <- 0 (R291). -/
def exitCommandMode (s : State) : State := { s with mode := { s.mode with cmdMode := false, logEn := false } }

/-- ENTER_CMD_MODE (R290). -/
def execEnterCmdMode (a : HostArgs) (s : State) : Outcome := onRequest a s (fun t => answerX 1 (enterCommandMode t))

/-- EXIT_CMD_MODE (R291). -/
def execExitCmdMode (a : HostArgs) (s : State) : Outcome := onRequest a s (fun t => answerX 0 (exitCommandMode t))

/-- GET_HOLD (R294). -/
def execGetHold (a : HostArgs) (s : State) : Outcome := onRequest a s (fun t => answerX t.config.holdDuration t)

/-- A SET of R295 to R301: the write happens when the value is in range, else it is ignored. -/
def setIf (inRange : Bool) (f : State → State) (s : State) : State := if inRange then f s else s

/-- SET_HOLD accepts 1..6 (R295). -/
def execSetHold (a : HostArgs) (s : State) : Outcome :=
  onRequest a s (fun t =>
    let u := setIf (decide (1 ≤ a.p0.toNat ∧ a.p0.toNat ≤ 6)) (writeHold a.p0) t
    answerX u.config.holdDuration u)

/-- GET_VELTHR (R296). -/
def execGetVelthr (a : HostArgs) (s : State) : Outcome := onRequest a s (fun t => answerX t.config.velThreshold t)

/-- SET_VELTHR accepts 0..127 (R297). -/
def execSetVelthr (a : HostArgs) (s : State) : Outcome :=
  onRequest a s (fun t =>
    let u := setIf (decide (a.p0.toNat ≤ 127)) (writeVelThreshold a.p0) t
    answerX u.config.velThreshold u)

/-- GET_SWAP (R298). -/
def execGetSwap (a : HostArgs) (s : State) : Outcome := onRequest a s (fun t => answerX t.config.swapNote t)

/-- SET_SWAP accepts any byte (R299). -/
def execSetSwap (a : HostArgs) (s : State) : Outcome :=
  onRequest a s (fun t =>
    let u := writeSwapNote a.p0 t
    answerX u.config.swapNote u)

/-- GET_HHTHR (R300). -/
def execGetHhthr (a : HostArgs) (s : State) : Outcome := onRequest a s (fun t => answerX t.config.hhThreshold t)

/-- SET_HHTHR accepts 0..127 (R301). -/
def execSetHhthr (a : HostArgs) (s : State) : Outcome :=
  onRequest a s (fun t =>
    let u := setIf (decide (a.p0.toNat ≤ 127)) (writeHhThreshold a.p0) t
    answerX u.config.hhThreshold u)

/-- GET_BANK (R302). -/
def execGetBank (a : HostArgs) (s : State) : Outcome := onRequest a s (fun t => answerX (t.config.activeBank.setWidth 8) t)

/-- SET_BANK accepts 0..1 (R303). -/
def execSetBank (a : HostArgs) (s : State) : Outcome :=
  onRequest a s (fun t =>
    let u := setIf (decide (a.p0.toNat ≤ 1)) (selectBank a.p0.toNat) t
    answerX (u.config.activeBank.setWidth 8) u)

/-- GET_MAP: out of range answers 0 (R306). -/
def execGetMap (a : HostArgs) (s : State) : Outcome :=
  onRequest a s (fun t =>
    if a.p0.toNat < t.cfg.C ∧ a.p1.toNat < t.cfg.S then answerX (mapGet t a.p0.toNat a.p1.toNat) t else t)

/-- SET_MAP: out of range writes nothing and answers 0 (R307). -/
def execSetMap (a : HostArgs) (s : State) : Outcome :=
  onRequest a s (fun t =>
    if a.p0.toNat < t.cfg.C ∧ a.p1.toNat < t.cfg.S then
      let u := mapSet a.p0.toNat a.p1.toNat a.p2 t
      answerX (mapGet u a.p0.toNat a.p1.toNat) u
    else t)

/-- FORCE_ON[ch] <- on (R312). -/
def forceChannel (ch : Nat) (on : Bool) (s : State) : State :=
  { s with channels := s.channels.modify ch (fun x => { x with forceOn := on }) }

/-- FORCE_OUTPUT: any p1 but 0 is on; out of range is ignored and answers 0 (R312). -/
def execForceOutput (a : HostArgs) (s : State) : Outcome :=
  onRequest a s (fun t =>
    if a.p0.toNat < t.cfg.C then
      let u := forceChannel a.p0.toNat (decide (a.p1 ≠ 0)) t
      answerX (bitByte (u.channels.getD a.p0.toNat {}).forceOn) u
    else t)

/-- READ_LINE: the sample of the most recent TICK; out of range answers 0 (R314). -/
def execReadLine (a : HostArgs) (s : State) : Outcome :=
  onRequest a s (fun t =>
    if a.p0.toNat < t.cfg.NL then answerX (bitByte (t.lineRaw.getD a.p0.toNat false)) t else t)

/-- The logical complement of the sequence byte: 1 when it is 0, otherwise 0 (R284, R322). -/
def logicalComplement (sq : Byte) : Byte := if sq = 0 then 1 else 0

/-- Unknown opcode: Z is the logical complement of the sequence number, X and Y stay 0 (R284). -/
def execHostUnknownOpcode (_op : Byte) (a : HostArgs) (s : State) : Outcome :=
  onRequest a s (fun t => { t with resp := { t.resp with z := logicalComplement a.seq } })

/-- Invalid prefix: the request is ignored; no register, no store byte and not the response changes (R281). -/
def execHostInvalidPrefix (_pfx : Byte) (_op : Byte) (_a : HostArgs) (s : State) : Outcome := onEvent s (fun t => t)

end Sys2Proof.Machine
end

