-- ==== Sys2Proof/Machine/Boot.lean ====
section
/-! DEFINITION. LINKERR (60_exceptions.md) and the RESET event (70_reset_and_hazards.md). -/
namespace Sys2Proof.Machine

/-- LINKERR: the interrupted message is lost; DISTRESS if configured; everything else is kept (R336). -/
def linkErrEvent (s : State) : State :=
  let t := setMState .waitingForStatus s
  if s.cfg.LINKERR_DISTRESS then raiseDistress t else t

/-- LINKERR (R336). -/
def execLinkErr (s : State) : Outcome := onEvent s linkErrEvent

/-- InitRegisters(): every register of R361's table. CFG, the store, the queue of presented events and the store calls are no registers. -/
def initRegisters (s : State) : State where
  cfg := s.cfg
  parser := { sysexBuf := List.replicate s.cfg.SYSEX_CAP 0 }
  channels := List.replicate s.cfg.C {}
  buttons := List.replicate s.cfg.NB {}
  mode := {}
  config := {}
  map := List.replicate s.cfg.C (List.replicate s.cfg.S 0)
  resp := {}
  lineRaw := List.replicate s.cfg.NL false
  report :=
    { outActive := List.replicate s.cfg.C false
      velOut := List.replicate s.cfg.C 0
      btnMask := List.replicate s.cfg.NB false }
  store := s.store
  bus := s.bus
  pending := s.pending
  awaitingReset := false

/-- The five default configuration bytes, in the order of R363. -/
def defaultConfigWrites (c : Cfg) : List (Nat × Byte) :=
  [(c.ADDR_HOLD, c.DEF_HOLD), (c.ADDR_VELTHR, c.DEF_VELTHR), (c.ADDR_BANK, c.DEF_BANK), (c.ADDR_SWAP, c.DEF_SWAP),
   (c.ADDR_HHTHR, c.DEF_HHTHR)]

/-- RestoreAll(): the whole configuration and both banks, the marker last, DISTRESS (R363). -/
def restoreAll (s : State) : State :=
  raiseDistress
    (storeWrite s.cfg.ADDR_VERSION s.cfg.SCHEMA_VERSION
      (restoreDefaults 1 (restoreDefaults 0 (storeWrites (defaultConfigWrites s.cfg) s))))

/-- BootCheck(): the schema marker test, on the whole byte (R362). -/
def bootCheck (s : State) : State :=
  let t := storeRead s.cfg.ADDR_VERSION s
  if s.store.read s.cfg.ADDR_VERSION = s.cfg.SCHEMA_VERSION then t else restoreAll t

/-- LoadFromStore(): the registers raw from the store, then switchBank with bit 0 of the bank byte (R364). -/
def loadFromStore (s : State) : State :=
  let c := s.cfg
  let t := storeReads [c.ADDR_HOLD, c.ADDR_VELTHR, c.ADDR_SWAP, c.ADDR_HHTHR, c.ADDR_BANK] s
  switchBank ((s.store.read c.ADDR_BANK).extractLsb' 0 1).toNat true
    { t with config :=
        { t.config with
          holdDuration := s.store.read c.ADDR_HOLD
          velThreshold := s.store.read c.ADDR_VELTHR
          swapNote := s.store.read c.ADDR_SWAP
          hhThreshold := s.store.read c.ADDR_HHTHR } }

/-- The store a RESET starts with: store0 at the first RESET of an execution, what earlier events left at a later one (R360). -/
def bootStore (store0 : List Byte) (s : State) : Memory :=
  if s.awaitingReset then Memory.ofImage store0 0 else s.store

/-- RESET(store0) (R360). -/
def resetEvent (store0 : List Byte) (s : State) : State :=
  loadFromStore (bootCheck (initRegisters { s with store := bootStore store0 s }))

/-- RESET (R360). -/
def execReset (store0 : List Byte) (s : State) : Outcome := onEvent s (resetEvent store0)

end Sys2Proof.Machine
end

