-- ==== Sys2Proof/Machine/Dispatch.lean ====
section
/-! DEFINITION. The meaning of every instruction: one arm per constructor of Instr. -/
namespace Sys2Proof.Machine

def exec (i : Instr) (s : State) : Host.Outcome State Fault Refusal :=
  match i with
  | .noteOff n => Sys2Proof.Machine.execNoteOff n s
  | .noteOn n => Sys2Proof.Machine.execNoteOn n s
  | .polyAftertouch n => Sys2Proof.Machine.execPolyAftertouch n s
  | .controlChange n => Sys2Proof.Machine.execControlChange n s
  | .programChange n => Sys2Proof.Machine.execProgramChange n s
  | .channelAftertouch n => Sys2Proof.Machine.execChannelAftertouch n s
  | .pitchBend n => Sys2Proof.Machine.execPitchBend n s
  | .sysexStart => Sys2Proof.Machine.execSysexStart s
  | .quarterFrame => Sys2Proof.Machine.execQuarterFrame s
  | .songPosition => Sys2Proof.Machine.execSongPosition s
  | .songSelect => Sys2Proof.Machine.execSongSelect s
  | .sysexEnd => Sys2Proof.Machine.execSysexEnd s
  | .timingClock => Sys2Proof.Machine.execTimingClock s
  | .activeSensing => Sys2Proof.Machine.execActiveSensing s
  | .undefF4 => Sys2Proof.Machine.execUndefF4 s
  | .undefF5 => Sys2Proof.Machine.execUndefF5 s
  | .tuneRequest => Sys2Proof.Machine.execTuneRequest s
  | .undefF9 => Sys2Proof.Machine.execUndefF9 s
  | .midiStart => Sys2Proof.Machine.execMidiStart s
  | .midiContinue => Sys2Proof.Machine.execMidiContinue s
  | .midiStop => Sys2Proof.Machine.execMidiStop s
  | .undefFD => Sys2Proof.Machine.execUndefFD s
  | .systemReset => Sys2Proof.Machine.execSystemReset s
  | .dataWaitingForStatus v => Sys2Proof.Machine.execDataWaitingForStatus v s
  | .dataWaitingForNoteOn v => Sys2Proof.Machine.execDataWaitingForNoteOn v s
  | .dataWaitingForOnVelocity v => Sys2Proof.Machine.execDataWaitingForOnVelocity v s
  | .dataWaitingForNoteOff v => Sys2Proof.Machine.execDataWaitingForNoteOff v s
  | .dataWaitingForOffVelocity v => Sys2Proof.Machine.execDataWaitingForOffVelocity v s
  | .dataWaitingForCCData1 v => Sys2Proof.Machine.execDataWaitingForCCData1 v s
  | .dataWaitingForCCData2 v => Sys2Proof.Machine.execDataWaitingForCCData2 v s
  | .dataWaitingForPedalData v => Sys2Proof.Machine.execDataWaitingForPedalData v s
  | .dataWaitingForData1Only v => Sys2Proof.Machine.execDataWaitingForData1Only v s
  | .dataWaitingForData1Of2 v => Sys2Proof.Machine.execDataWaitingForData1Of2 v s
  | .dataWaitingForData2 v => Sys2Proof.Machine.execDataWaitingForData2 v s
  | .dataCollectSysExData v => Sys2Proof.Machine.execDataCollectSysExData v s
  | .getVersion a => Sys2Proof.Machine.execGetVersion a s
  | .getFeatures a => Sys2Proof.Machine.execGetFeatures a s
  | .enterCmdMode a => Sys2Proof.Machine.execEnterCmdMode a s
  | .exitCmdMode a => Sys2Proof.Machine.execExitCmdMode a s
  | .getHold a => Sys2Proof.Machine.execGetHold a s
  | .setHold a => Sys2Proof.Machine.execSetHold a s
  | .getVelthr a => Sys2Proof.Machine.execGetVelthr a s
  | .setVelthr a => Sys2Proof.Machine.execSetVelthr a s
  | .getSwap a => Sys2Proof.Machine.execGetSwap a s
  | .setSwap a => Sys2Proof.Machine.execSetSwap a s
  | .getHhthr a => Sys2Proof.Machine.execGetHhthr a s
  | .setHhthr a => Sys2Proof.Machine.execSetHhthr a s
  | .getBank a => Sys2Proof.Machine.execGetBank a s
  | .setBank a => Sys2Proof.Machine.execSetBank a s
  | .getMap a => Sys2Proof.Machine.execGetMap a s
  | .setMap a => Sys2Proof.Machine.execSetMap a s
  | .forceOutput a => Sys2Proof.Machine.execForceOutput a s
  | .readLine a => Sys2Proof.Machine.execReadLine a s
  | .hostUnknownOpcode op a => Sys2Proof.Machine.execHostUnknownOpcode op a s
  | .hostInvalidPrefix pfx op a => Sys2Proof.Machine.execHostInvalidPrefix pfx op a s
  | .tick lines => Sys2Proof.Machine.execTick lines s
  | .linkErr => Sys2Proof.Machine.execLinkErr s
  | .reset store0 => Sys2Proof.Machine.execReset store0 s

end Sys2Proof.Machine
end

