-- ==== Sys2Proof/Machine/Interface.lean ====
section
/-! DEFINITION. The block's interface as the environment sees it: the outputs (R9), the order of events that coincide in one
cycle (R340), and the trace notation's macros (R115, R116). -/
namespace Sys2Proof.Machine

/-- The outputs, functions of the state after each event (R9, R50). -/
structure Outputs where
  outActive : List Bool
  velOut : List Byte
  btnMask : List Bool
  hat : Hat
  axis : List Byte
  distress : Bool
  respX : Byte
  respY : Byte
  respZ : Byte
deriving DecidableEq, Repr

/-- The outputs of a state (R9). -/
def outputsOf (s : State) : Outputs where
  outActive := s.report.outActive
  velOut := s.report.velOut
  btnMask := s.report.btnMask
  hat := s.report.hat
  axis := [s.report.axis0, s.report.axis1, s.report.axis2, s.report.axis3]
  distress := s.mode.distress
  respX := s.resp.x
  respY := s.resp.y
  respZ := s.resp.z

/-- The environment presents one more event, after those already presented (R338: never reordered). -/
def present (e : Event) (s : State) : State := { s with pending := s.pending ++ [e] }

/-- The inputs of one clock cycle of the signal-level realisation (92_eei_decisions.md D2). -/
structure Cycle where
  /-- A byte is delivered. -/
  rx : Option Byte
  /-- The receiver's error strobe. -/
  rxErr : Bool
  /-- A host request is delivered. -/
  req : Option (List Byte)
  /-- The tick strobe with the sampled lines. -/
  tick : Option (List Bool)
deriving DecidableEq, Repr

/-- The serial event of a cycle: a byte delivered together with an error strobe is discarded (R340). -/
def serialEvents (y : Cycle) : List Event :=
  if y.rxErr then [.linkerr]
  else
    match y.rx with
    | some b => [.byte b]
    | none => []

/-- The host request of a cycle. -/
def requestEvents (y : Cycle) : List Event :=
  match y.req with
  | some r => [.hostreq r]
  | none => []

/-- The tick of a cycle. -/
def tickEvents (y : Cycle) : List Event :=
  match y.tick with
  | some ls => [.tick ls]
  | none => []

/-- The events of one cycle in their fixed order: serial, HOSTREQ, TICK (R340). -/
def cycleEvents (y : Cycle) : List Event := serialEvents y ++ requestEvents y ++ tickEvents y

/-! ### Macros of the trace notation (R116) -/

/-- `NOTEON.ch k n v`. -/
def traceNoteOnCh (k : Nibble) (n v : Data7) : List Event := [.byte (statusByte 0x9 k), .byte (dataByte n), .byte (dataByte v)]

/-- `NOTEON n v`. -/
def traceNoteOn (n v : Data7) : List Event := traceNoteOnCh 0 n v

/-- `RUNNING n v`. -/
def traceRunning (n v : Data7) : List Event := [.byte (dataByte n), .byte (dataByte v)]

/-- `NOTEOFF n v`. -/
def traceNoteOff (n v : Data7) : List Event := [.byte (statusByte 0x8 0), .byte (dataByte n), .byte (dataByte v)]

/-- `CC c v`. -/
def traceCC (k v : Data7) : List Event := [.byte (statusByte 0xB 0), .byte (dataByte k), .byte (dataByte v)]

/-- `PEDAL v`. -/
def tracePedal (c : Cfg) (v : Data7) : List Event := traceCC c.HH_CC v

/-- `SYSEX d1 .. dk`. -/
def traceSysex (ds : List Data7) : List Event := .byte 0xF0 :: ds.map (fun d => .byte (dataByte d)) ++ [.byte 0xF7]

/-- `TICK <set>`: the asserted lines (R115). -/
def traceTick (c : Cfg) (set : List Nat) : Event := .tick ((List.range c.NL).map (fun i => set.contains i))

/-- `TICKS k <set>`. -/
def traceTicks (c : Cfg) (k : Nat) (set : List Nat) : List Event := List.replicate k (traceTick c set)

/-- `HOLD i k`. -/
def traceHold (c : Cfg) (i k : Nat) : List Event := traceTicks c k [i]

end Sys2Proof.Machine
end

