-- ==== Sys2Proof/Machine/Fetch.lean ====
section
/-! DEFINITION. How a step comes by its instruction: the next presented event, decoded in the current parser state. -/
namespace Sys2Proof.Machine

/-- What the next step runs. -/
inductive Fetched where
  /-- No event is presented: the block holds its state (R350). -/
  | idle
  /-- The instruction, with its event taken from the queue. -/
  | run (i : Instr) (s : State)
  /-- The step is refused. -/
  | stop (r : Refusal)
deriving DecidableEq, Repr

/-- The event is RESET. -/
def isReset : Event → Bool
  | .reset _ => true
  | .byte _ => false
  | .tick _ => false
  | .hostreq _ => false
  | .linkerr => false

/-- The next instruction. Refused: a CFG that violates its constraints (93_implementation_defined.md U2), an event before the
first RESET (U1), an argument that is no event of R90. DESIGN CHOICE: events are taken from the queue `pending`
(notes/assumptions/3.md; safe: the queue is arbitrary in every statement about every state). -/
def fetch (s : State) : Fetched :=
  if s.cfg.valid = false then .stop .invalidCfg
  else
    match s.pending with
    | [] => .idle
    | e :: rest =>
      if s.awaitingReset = true ∧ isReset e = false then .stop .beforeFirstReset
      else
        match decode s.cfg s.parser.mstate e with
        | .ok i => .run i { s with pending := rest }
        | .error why => .stop (.malformedEvent why)

/-- The event of an instruction word, ahead of every event already presented. -/
def presentWord (s : State) (nbits w : Nat) : State :=
  match eventOfWord s.cfg nbits w with
  | some e => { s with pending := e :: s.pending }
  | none => s

end Sys2Proof.Machine
end

