-- ==== Sys2Proof/Machine/Step.lean ====
section
/-! DEFINITION. One step: the next presented event, executed to completion (R9, R75); without one the block holds its state. -/
namespace Sys2Proof.Machine

def step (s : State) : Host.Outcome State Fault Refusal :=
  match fetch s with
  | .idle => .next s
  | .run i t => exec i t
  | .stop r => .refused r

def State.withFetchWord (s : State) (nbits w : Nat) : State := presentWord s nbits w

end Sys2Proof.Machine
end

