-- ==== Sys2Proof/Safety.lean ====
section
/-! DEFINITION. What a good state of the machine is: the invariants that the spec states of every reachable state (R18, R34, R35,
R39, R48, R71, R121, R244), and the canonical form of the store. -/
namespace Sys2Proof.Machine

/-- Every register array has the length CFG gives it, and SYSEX_LEN is within the buffer (R18, R28, R30, R45, R48, R50). -/
abbrev ShapeOk (s : State) : Prop :=
  s.channels.length = s.cfg.C ∧ s.buttons.length = s.cfg.NB ∧
  s.map.length = s.cfg.C ∧ (∀ row ∈ s.map, row.length = s.cfg.S) ∧
  s.lineRaw.length = s.cfg.NL ∧
  s.report.outActive.length = s.cfg.C ∧ s.report.velOut.length = s.cfg.C ∧ s.report.btnMask.length = s.cfg.NB ∧
  s.parser.sysexBuf.length = s.cfg.SYSEX_CAP ∧ s.parser.sysexLen ≤ s.cfg.SYSEX_CAP

/-- The store is canonical and lists only addresses that exist (R60). -/
abbrev StoreOk (s : State) : Prop :=
  s.store.wf = true ∧ ∀ p ∈ s.store, p.1 < s.cfg.STORE_SIZE

/-- PROG_VALID is 1 exactly outside Play, PROG_CH is then a channel, and command mode is in Play (R18, R39, R244). -/
abbrev ModeOk (s : State) : Prop :=
  (s.mode.progValid = true ↔ s.mode.mode ≠ .play) ∧
  (s.mode.progValid = true → s.mode.progCh.toNat < s.cfg.C) ∧
  (s.mode.cmdMode = true → s.mode.mode = .play)

/-- The seven values CLASS[i] can take (R34). -/
def legalClasses : List BtnClass :=
  [{}, { pressed := true }, { pressed := true, held := true }, { pressed := true, held := true, heldLong := true },
   { pressed := true, held := true, heldLong := true, heldSuperLong := true }, { relPress := true }, { relHold := true }]

/-- Every button's classification is one of the seven, and its run length at most T_SUPER (R34, R35). -/
abbrev ButtonsOk (s : State) : Prop :=
  ∀ b ∈ s.buttons, b.cls ∈ legalClasses ∧ b.run.toNat ≤ s.cfg.T_SUPER

/-- LINE_RAW[i] = PRESSED_RAW[i] for every button (R48). -/
abbrev LinesOk (s : State) : Prop :=
  s.lineRaw.take s.buttons.length = s.buttons.map (fun b => b.pressedRaw)

/-- The coherence of the cache and the configuration registers with the store (R71). -/
abbrev Coherent (s : State) : Prop :=
  s.map = loadBank s.cfg s.store (bankNum s.config.activeBank) ∧
  s.config.holdDuration = s.store.read s.cfg.ADDR_HOLD ∧
  s.config.velThreshold = s.store.read s.cfg.ADDR_VELTHR ∧
  s.config.swapNote = s.store.read s.cfg.ADDR_SWAP ∧
  s.config.hhThreshold = s.store.read s.cfg.ADDR_HHTHR ∧
  s.config.activeBank = (s.store.read s.cfg.ADDR_BANK).extractLsb' 0 1

/-- At most one event value per BYTE event (R121), and AXIS[3] is always 0 (R101). -/
abbrev OutputOk (s : State) : Prop :=
  s.parser.events.length ≤ 1 ∧ s.report.axis3 = 0

/-- A good state: CFG meets its constraints and every invariant holds. -/
abbrev Inv (s : State) : Prop :=
  s.cfg.valid = true ∧ ShapeOk s ∧ StoreOk s ∧ ModeOk s ∧ ButtonsOk s ∧ LinesOk s ∧ Coherent s ∧ OutputOk s

/-- A safe run never faults: the step answers a next state or a refusal (R330). -/
abbrev SafeStep (s : State) : Prop := ∀ f : Fault, step s ≠ .fault f

/-! ### The terms of the statements -/

/-- Every store byte reads as before. -/
abbrev StoreKept (s t : State) : Prop := ∀ a, t.store.read a = s.store.read a

/-- One store byte is written; every other address reads as before. -/
abbrev StoresByte (s t : State) (a : Nat) (v : Byte) : Prop :=
  ∀ x, t.store.read x = if x = a then v else s.store.read x

/-- The StoreWrites among the store calls, in order. -/
def storesOf (ops : List StoreOp) : List (Nat × Byte) :=
  ops.filterMap (fun o =>
    match o with
    | .get _ => none
    | .set a v => some (a, v))

/-- The byte at an address when RESET starts: store0's at the first RESET, the store's at a later one (R360). -/
def bootByte (store0 : List Byte) (s : State) (a : Nat) : Byte :=
  if s.awaitingReset then store0.getD a Memory.blank else s.store.read a

/-- The note stands in the slot prefix of the channel (R17). -/
abbrev Mapped (s : State) (ch : Nat) (n : Byte) : Prop := n ∈ slotPrefix s.cfg.UNASSIGNED (s.map.getD ch [])

/-- The second table of R156: the next state of a status byte, whatever the state before. -/
def statusNext (b : Byte) : MState :=
  if b.toNat < 0x90 then .waitingForNoteOff
  else if b.toNat < 0xA0 then .waitingForNoteOn
  else if b.toNat < 0xB0 then .waitingForData1Of2
  else if b.toNat < 0xC0 then .waitingForCCData1
  else if b.toNat < 0xE0 then .waitingForData1Only
  else if b.toNat < 0xF0 then .waitingForData1Of2
  else if b.toNat = 0xF0 then .collectSysExData
  else if b.toNat = 0xF1 then .waitingForData1Only
  else if b.toNat = 0xF2 then .waitingForData1Of2
  else if b.toNat = 0xF3 then .waitingForData1Only
  else .waitingForStatus

/-- The first table of R156: the next state of a data byte. -/
def dataNext (c : Cfg) (d : Data7) : MState → MState
  | .waitingForStatus => .waitingForStatus
  | .waitingForNoteOn => .waitingForOnVelocity
  | .waitingForOnVelocity => .waitingForNoteOn
  | .waitingForNoteOff => .waitingForOffVelocity
  | .waitingForOffVelocity => .waitingForStatus
  | .waitingForCCData1 => if d = c.HH_CC then .waitingForPedalData else .waitingForCCData2
  | .waitingForCCData2 => .waitingForStatus
  | .waitingForPedalData => .waitingForStatus
  | .waitingForData1Only => .waitingForStatus
  | .waitingForData1Of2 => .waitingForData2
  | .waitingForData2 => .waitingForStatus
  | .collectSysExData => .collectSysExData

/-- The next-state function of R122. -/
def nextMState (c : Cfg) (m : MState) (b : Byte) : MState :=
  if 128 ≤ b.toNat then statusNext b else dataNext c (b.setWidth 7) m

/-- The event value of a data byte, if any (R121, R141, R144, R147). -/
def dataEmits (s : State) (d : Data7) : MState → List MidiEvent
  | .waitingForStatus => []
  | .waitingForNoteOn => []
  | .waitingForOnVelocity =>
    if d = 0 then [.noteOff s.parser.pendingNote]
    else if s.config.velThreshold.toNat ≤ d.toNat then [.noteOn s.parser.pendingNote d]
    else []
  | .waitingForNoteOff => []
  | .waitingForOffVelocity => [.noteOff s.parser.pendingNote]
  | .waitingForCCData1 => []
  | .waitingForCCData2 => []
  | .waitingForPedalData => [.pedal d]
  | .waitingForData1Only => []
  | .waitingForData1Of2 => []
  | .waitingForData2 => []
  | .collectSysExData => []

/-- The output list EVENTS of a BYTE event (R121): a status byte emits nothing. -/
def byteEmits (s : State) (b : Byte) : List MidiEvent :=
  if 128 ≤ b.toNat then [] else dataEmits s (b.setWidth 7) s.parser.mstate

end Sys2Proof.Machine
end

