-- ==== Sys2Proof/Certificates/Slice0/Obligations.lean ====
section
/-! DEFINITION. The statements for the provers. Every statement is about every CFG and every state, unless it names REFCFG. A
statement that rests on a choice of the model says so and names its log entry (notes/assumptions). -/
section
open Sys2Proof Sys2Proof.Machine

/-! ### RESET -/

/-- State.reset is the end of `RESET store=blank` under REFCFG (R360's example). The model's choice: REFCFG
(notes/assumptions/1.md) and the blank store (notes/assumptions/2.md) are what State.reset stands for. -/
def Obligations.ResetStateIsBootFromBlankStore : Prop :=
  ∀ s : State, s.cfg = refcfg → s.awaitingReset = true →
    ∃ t, exec (.reset (List.replicate 72 0xFF)) s = .next t ∧
      { t with bus := [] } = { State.reset with pending := s.pending }

/-- The invariant of Safety.lean holds at State.reset (the model's choice of a reset state: notes/assumptions/1.md and 2.md). -/
def Obligations.ResetStateMeetsInvariant : Prop := Inv State.reset

/-- R361: every register after RESET, those loaded from the store at the bytes the store then holds. -/
def Obligations.RegistersAfterReset : Prop :=
  ∀ (s : State) (store0 : List Byte), s.cfg.valid = true → store0.length = s.cfg.STORE_SIZE →
    ∃ t, exec (.reset store0) s = .next t ∧
      t.parser =
        { mstate := .waitingForStatus, pendingNote := 0, lastType := 0, onValid := false, onNote := 0, onVel := 0,
          offValid := false, offNote := 0, pedalPos := 0, sysexLen := 0, sysexBuf := List.replicate s.cfg.SYSEX_CAP 0,
          events := [] } ∧
      t.channels =
        List.replicate s.cfg.C { active := false, count := 0, lastVel := 0, trig := false, forceOn := false } ∧
      t.buttons =
        List.replicate s.cfg.NB
          { pressedRaw := false
            cls := { pressed := false, held := false, heldLong := false, heldSuperLong := false, relPress := false,
                     relHold := false }
            run := 0
            changed := false } ∧
      t.mode =
        { mode := .play, progValid := false, progCh := 0, cmdMode := false, logEn := false
          distress := decide (bootByte store0 s s.cfg.ADDR_VERSION ≠ s.cfg.SCHEMA_VERSION) } ∧
      t.config =
        { holdDuration := t.store.read s.cfg.ADDR_HOLD
          velThreshold := t.store.read s.cfg.ADDR_VELTHR
          activeBank := (t.store.read s.cfg.ADDR_BANK).extractLsb' 0 1
          swapNote := t.store.read s.cfg.ADDR_SWAP
          hhThreshold := t.store.read s.cfg.ADDR_HHTHR } ∧
      t.map.length = s.cfg.C ∧ (∀ row ∈ t.map, row.length = s.cfg.S) ∧
      (∀ ch < s.cfg.C, ∀ sl < s.cfg.S,
        mapGet t ch sl = t.store.read (slotAddr s.cfg (bankNum t.config.activeBank) ch sl)) ∧
      t.resp = { x := 0, y := 0, z := 0 } ∧ t.lineRaw = List.replicate s.cfg.NL false ∧
      t.report =
        { outActive := List.replicate s.cfg.C false, velOut := List.replicate s.cfg.C 0,
          btnMask := List.replicate s.cfg.NB false, hat := .neutral, axis0 := 0, axis1 := 0, axis2 := 0, axis3 := 0 } ∧
      t.cfg = s.cfg ∧ t.pending = s.pending ∧ t.awaitingReset = false

/-- R362: under a matching marker RESET writes no byte of the store; the first RESET of an execution takes store0 as it is. -/
def Obligations.MatchingMarkerWritesNothing : Prop :=
  ∀ (s : State) (store0 : List Byte), s.cfg.valid = true → store0.length = s.cfg.STORE_SIZE →
    bootByte store0 s s.cfg.ADDR_VERSION = s.cfg.SCHEMA_VERSION →
    ∃ t, exec (.reset store0) s = .next t ∧ storesOf t.bus = [] ∧
      (∀ a < s.cfg.STORE_SIZE, t.store.read a = bootByte store0 s a) ∧ t.mode.distress = false

/-- R363 and R366: a mismatched marker restores the whole configuration and both banks, in R363's order of writes with the
marker last, raises DISTRESS, and leaves every byte it does not name. -/
def Obligations.MismatchedMarkerRestoresAll : Prop :=
  ∀ (s : State) (store0 : List Byte), s.cfg.valid = true → store0.length = s.cfg.STORE_SIZE → StoreOk s →
    bootByte store0 s s.cfg.ADDR_VERSION ≠ s.cfg.SCHEMA_VERSION →
    ∃ t, exec (.reset store0) s = .next t ∧
      storesOf t.bus =
        [(s.cfg.ADDR_HOLD, s.cfg.DEF_HOLD), (s.cfg.ADDR_VELTHR, s.cfg.DEF_VELTHR), (s.cfg.ADDR_BANK, s.cfg.DEF_BANK),
         (s.cfg.ADDR_SWAP, s.cfg.DEF_SWAP), (s.cfg.ADDR_HHTHR, s.cfg.DEF_HHTHR)] ++
        defaultWrites s.cfg 0 ++ defaultWrites s.cfg 1 ++ [(s.cfg.ADDR_VERSION, s.cfg.SCHEMA_VERSION)] ∧
      (storesOf t.bus).length = 5 + 2 * (s.cfg.C * s.cfg.S) + 1 ∧
      t.config =
        { holdDuration := s.cfg.DEF_HOLD
          velThreshold := s.cfg.DEF_VELTHR
          activeBank := s.cfg.DEF_BANK.extractLsb' 0 1
          swapNote := s.cfg.DEF_SWAP
          hhThreshold := s.cfg.DEF_HHTHR } ∧
      (∀ b ≤ 1, ∀ ch < s.cfg.C, ∀ sl < s.cfg.S,
        t.store.read (slotAddr s.cfg b ch sl) = ((defaultTable s.cfg b).getD ch []).getD sl 0) ∧
      t.map = defaultTable s.cfg s.cfg.DEF_BANK.toNat ∧
      t.store.read s.cfg.ADDR_VERSION = s.cfg.SCHEMA_VERSION ∧
      (∀ a < s.cfg.STORE_SIZE, a ∉ (storesOf t.bus).map Prod.fst → t.store.read a = bootByte store0 s a) ∧
      t.mode.distress = true

/-- R366: a second RESET right after a RESET finds a matching marker, writes nothing, and ends with the same registers but
DISTRESS = 0. -/
def Obligations.SecondResetClearsDistress : Prop :=
  ∀ (s t : State) (store0 store1 : List Byte), s.cfg.valid = true → store0.length = s.cfg.STORE_SIZE → StoreOk s →
    exec (.reset store0) s = .next t →
    ∃ u, exec (.reset store1) t = .next u ∧ storesOf u.bus = [] ∧
      { u with bus := [] } = { t with bus := [], mode := { t.mode with distress := false } }

/-- R350: what survives a later RESET is the store alone; no register and no second store0 has any effect. -/
def Obligations.LaterResetKeepsOnlyTheStore : Prop :=
  ∀ (s s' : State) (m m' : List Byte), s.awaitingReset = false → s'.awaitingReset = false →
    s.cfg = s'.cfg → s.store = s'.store → s.pending = s'.pending → exec (.reset m) s = exec (.reset m') s'

/-! ### BYTE -/

/-- R124 to R133, R136 and R137: a status byte with a handler, on any MIDI channel `n` (ignored, R98) and in any parser state
`m`. -/
def Obligations.HandledStatusBytes : Prop :=
  ∀ (n : Nibble) (m : MState) (s : State),
    let after := fun (type : Byte) (next : MState) =>
      { s with bus := [], parser := { s.parser with events := [], lastType := type, mstate := next } }
    (decodeByte m (0x8#4 ++ n) = .noteOff n ∧ exec (.noteOff n) s = .next (after 0x80 .waitingForNoteOff)) ∧
    (decodeByte m (0x9#4 ++ n) = .noteOn n ∧ exec (.noteOn n) s = .next (after 0x90 .waitingForNoteOn)) ∧
    (decodeByte m (0xA#4 ++ n) = .polyAftertouch n ∧
      exec (.polyAftertouch n) s = .next (after 0xA0 .waitingForData1Of2)) ∧
    (decodeByte m (0xB#4 ++ n) = .controlChange n ∧ exec (.controlChange n) s = .next (after 0xB0 .waitingForCCData1)) ∧
    (decodeByte m (0xC#4 ++ n) = .programChange n ∧
      exec (.programChange n) s = .next (after 0xC0 .waitingForData1Only)) ∧
    (decodeByte m (0xD#4 ++ n) = .channelAftertouch n ∧
      exec (.channelAftertouch n) s = .next (after 0xD0 .waitingForData1Only)) ∧
    (decodeByte m (0xE#4 ++ n) = .pitchBend n ∧ exec (.pitchBend n) s = .next (after 0xE0 .waitingForData1Of2)) ∧
    (decodeByte m 0xF0 = .sysexStart ∧
      exec .sysexStart s =
        .next { s with
          bus := []
          parser := { s.parser with events := [], lastType := 0xF0, sysexLen := 0, mstate := .collectSysExData } }) ∧
    (decodeByte m 0xF1 = .quarterFrame ∧ exec .quarterFrame s = .next (after 0xF1 .waitingForData1Only)) ∧
    (decodeByte m 0xF2 = .songPosition ∧ exec .songPosition s = .next (after 0xF2 .waitingForData1Of2)) ∧
    (decodeByte m 0xF3 = .songSelect ∧ exec .songSelect s = .next (after 0xF3 .waitingForData1Only)) ∧
    (decodeByte m 0xF7 = .sysexEnd ∧ exec .sysexEnd s = .next (after 0xF7 .waitingForStatus))

/-- R134, R135 and R138: the eleven no-op status bytes leave the parser in WaitingForStatus and change nothing else (EVENTS is
cleared by every BYTE, R120); LAST_TYPE is not written. -/
def Obligations.NoOpStatusBytes : Prop :=
  ∀ (m : MState) (s : State),
    let after := { s with bus := [], parser := { s.parser with events := [], mstate := .waitingForStatus } }
    (decodeByte m 0xF8 = .timingClock ∧ exec .timingClock s = .next after) ∧
    (decodeByte m 0xFE = .activeSensing ∧ exec .activeSensing s = .next after) ∧
    (decodeByte m 0xF4 = .undefF4 ∧ exec .undefF4 s = .next after) ∧
    (decodeByte m 0xF5 = .undefF5 ∧ exec .undefF5 s = .next after) ∧
    (decodeByte m 0xF6 = .tuneRequest ∧ exec .tuneRequest s = .next after) ∧
    (decodeByte m 0xF9 = .undefF9 ∧ exec .undefF9 s = .next after) ∧
    (decodeByte m 0xFA = .midiStart ∧ exec .midiStart s = .next after) ∧
    (decodeByte m 0xFB = .midiContinue ∧ exec .midiContinue s = .next after) ∧
    (decodeByte m 0xFC = .midiStop ∧ exec .midiStop s = .next after) ∧
    (decodeByte m 0xFD = .undefFD ∧ exec .undefFD s = .next after) ∧
    (decodeByte m 0xFF = .systemReset ∧ exec .systemReset s = .next after)

/-- R143 to R149, R151, R152: the data bytes of the nine states outside Note-On that do not collect. -/
def Obligations.DataByteEffects : Prop :=
  ∀ (d : Data7) (s : State),
    let after := fun (p : ParserRegs) => { s with bus := [], parser := p }
    let p := { s.parser with events := [] }
    exec (.dataWaitingForStatus d) s = .next (after p) ∧
    exec (.dataWaitingForNoteOff d) s = .next (after { p with pendingNote := d, mstate := .waitingForOffVelocity }) ∧
    exec (.dataWaitingForOffVelocity d) s =
      .next (after { p with
        offNote := p.pendingNote, offValid := true, events := [.noteOff p.pendingNote], mstate := .waitingForStatus }) ∧
    exec (.dataWaitingForCCData1 d) s =
      .next (after { p with mstate := if d = s.cfg.HH_CC then .waitingForPedalData else .waitingForCCData2 }) ∧
    exec (.dataWaitingForCCData2 d) s = .next (after { p with mstate := .waitingForStatus }) ∧
    exec (.dataWaitingForPedalData d) s =
      .next (after { p with pedalPos := d, events := [.pedal d], mstate := .waitingForStatus }) ∧
    exec (.dataWaitingForData1Only d) s = .next (after { p with mstate := .waitingForStatus }) ∧
    exec (.dataWaitingForData1Of2 d) s = .next (after { p with mstate := .waitingForData2 }) ∧
    exec (.dataWaitingForData2 d) s = .next (after { p with mstate := .waitingForStatus })

/-- R150: a SysEx payload byte is appended at SYSEX_LEN while there is room and dropped once the buffer is full; nothing else
changes. -/
def Obligations.SysexPayloadByte : Prop :=
  ∀ (d : Data7) (s : State), s.parser.sysexBuf.length = s.cfg.SYSEX_CAP →
    ∃ t, exec (.dataCollectSysExData d) s = .next t ∧
      { t with bus := s.bus, parser := s.parser } = s ∧ t.bus = [] ∧
      { t.parser with events := s.parser.events, sysexBuf := s.parser.sysexBuf, sysexLen := s.parser.sysexLen } = s.parser ∧
      t.parser.events = [] ∧ t.parser.sysexBuf.length = s.cfg.SYSEX_CAP ∧
      (s.parser.sysexLen < s.cfg.SYSEX_CAP → t.parser.sysexLen = s.parser.sysexLen + 1 ∧
        t.parser.sysexBuf[s.parser.sysexLen]? = some (d.setWidth 8) ∧
        ∀ i, i ≠ s.parser.sysexLen → t.parser.sysexBuf[i]? = s.parser.sysexBuf[i]?) ∧
      (s.cfg.SYSEX_CAP ≤ s.parser.sysexLen →
        t.parser.sysexLen = s.parser.sysexLen ∧ t.parser.sysexBuf = s.parser.sysexBuf)

/-- R156 and R122: every byte value is accepted in every parser state, and MSTATE after it is R156's. -/
def Obligations.ByteNextStateTable : Prop :=
  ∀ (s : State) (b : Byte), s.cfg.valid = true →
    ∃ t, exec (decodeByte s.parser.mstate b) s = .next t ∧ t.parser.mstate = nextMState s.cfg s.parser.mstate b

/-- R121: the output list of a BYTE event, and that it holds at most one event value. -/
def Obligations.ByteEmitsAtMostOneEvent : Prop :=
  ∀ (s t : State) (b : Byte), exec (decodeByte s.parser.mstate b) s = .next t →
    t.parser.events = byteEmits s b ∧ t.parser.events.length ≤ 1

/-- R21: a BYTE event writes the parser registers, TRIG, LASTVEL, and (teaching, or by the swap note) MAP, STORE and
ACTIVE_BANK; the routing by MODE (R142) decides which. -/
def Obligations.ByteWritesOnlyItsRegisters : Prop :=
  ∀ (s t : State) (b : Byte), exec (decodeByte s.parser.mstate b) s = .next t →
    t.cfg = s.cfg ∧ t.buttons = s.buttons ∧ t.mode = s.mode ∧ t.resp = s.resp ∧ t.lineRaw = s.lineRaw ∧
    t.report = s.report ∧ t.pending = s.pending ∧ t.awaitingReset = s.awaitingReset ∧
    { t.config with activeBank := s.config.activeBank } = s.config ∧
    t.channels.map (fun x => { x with trig := false, lastVel := 0 }) =
      s.channels.map (fun x => { x with trig := false, lastVel := 0 }) ∧
    (s.mode.mode ≠ .play → t.channels = s.channels ∧ t.config = s.config) ∧
    (s.mode.mode ≠ .programMap → s.config.swapNote.toNat ≥ 128 → t.map = s.map ∧ t.store = s.store ∧ t.config = s.config) ∧
    (s.mode.mode = .programVelocity ∨ s.mode.mode = .programDuration → t.map = s.map ∧ t.store = s.store)

/-- R140 and R141: the data bytes of a Note-On that touch the parser registers alone. The note byte clears OFF_VALID (R140; where
R18 would have OFF_* wait for the whole message this is the model's choice: notes/assumptions/21.md). A velocity byte routes nothing
when it does not qualify, or qualifies in ProgramVelocity or ProgramDuration; velocity 0 is a note-off whatever the threshold
(R377). -/
def Obligations.NoteOnDataBytesWithoutRouting : Prop :=
  ∀ (d v : Data7) (s : State),
    let after := fun (p : ParserRegs) => { s with bus := [], parser := p }
    let p := { s.parser with events := [], mstate := .waitingForNoteOn }
    exec (.dataWaitingForNoteOn d) s =
      .next (after { p with pendingNote := d, offValid := false, mstate := .waitingForOnVelocity }) ∧
    (v = 0 → exec (.dataWaitingForOnVelocity v) s =
      .next (after { p with
        offNote := p.pendingNote, offValid := true, onValid := false, events := [.noteOff p.pendingNote] })) ∧
    (v ≠ 0 → v.toNat < s.config.velThreshold.toNat → exec (.dataWaitingForOnVelocity v) s = .next (after p)) ∧
    (v ≠ 0 → s.config.velThreshold.toNat ≤ v.toNat →
      s.mode.mode = .programVelocity ∨ s.mode.mode = .programDuration →
      exec (.dataWaitingForOnVelocity v) s =
        .next (after { p with
          onNote := p.pendingNote, onVel := v, onValid := true, events := [.noteOn p.pendingNote v] }))

/-- R142 and R177: in Play a qualifying note-on that is not the swap note activates exactly the channels whose slot prefix holds
the note, each with the velocity, and changes nothing else but the parser registers. -/
def Obligations.QualifyingNoteActivatesMappedChannels : Prop :=
  ∀ (v : Data7) (s : State), v ≠ 0 → s.config.velThreshold.toNat ≤ v.toNat → s.mode.mode = .play →
    s.parser.pendingNote.toNat ≠ s.config.swapNote.toNat →
    exec (.dataWaitingForOnVelocity v) s =
      .next { s with
        bus := []
        parser := { s.parser with
          events := [.noteOn s.parser.pendingNote v], onNote := s.parser.pendingNote, onVel := v, onValid := true,
          mstate := .waitingForNoteOn }
        channels := s.channels.mapIdx (fun ch x =>
          if Mapped s ch (s.parser.pendingNote.setWidth 8) then { x with trig := true, lastVel := v } else x) }

/-- R154: over a whole 3-byte Note-On the activation event fires iff the velocity is not 0 and reaches the threshold; velocity 0
is a note-off of the same note; in Play the mapped channels and no others are activated. -/
def Obligations.NoteOnSequenceActivates : Prop :=
  ∀ (k : Nibble) (n v : Data7) (s s1 s2 t : State), exec (.noteOn k) s = .next s1 →
    exec (decodeByte s1.parser.mstate (0#1 ++ n)) s1 = .next s2 →
    exec (decodeByte s2.parser.mstate (0#1 ++ v)) s2 = .next t →
    (t.parser.events = [.noteOn n v] ↔ 0 < v.toNat ∧ s.config.velThreshold.toNat ≤ v.toNat) ∧
    (v = 0 → t.parser.events = [.noteOff n] ∧ t.channels = s.channels) ∧
    (¬ (0 < v.toNat ∧ s.config.velThreshold.toNat ≤ v.toNat) → t.channels = s.channels) ∧
    (0 < v.toNat → s.config.velThreshold.toNat ≤ v.toNat → s.mode.mode = .play →
      n.toNat ≠ s.config.swapNote.toNat →
      ∀ (ch : Nat) (x : Channel), s.channels[ch]? = some x →
        t.channels[ch]? = some (if Mapped s ch (n.setWidth 8) then { x with trig := true, lastVel := v } else x))

/-- R142 and R186: in Play a qualifying note-on of the swap note makes the other bank active, reloads the cache from that
bank's bytes, persists the bank number, and activates no channel. -/
def Obligations.SwapNoteCyclesBank : Prop :=
  ∀ (v : Data7) (s : State), s.cfg.valid = true → StoreOk s → v ≠ 0 → s.config.velThreshold.toNat ≤ v.toNat →
    s.mode.mode = .play → s.parser.pendingNote.toNat = s.config.swapNote.toNat →
    ∃ t, exec (.dataWaitingForOnVelocity v) s = .next t ∧
      { t with config := s.config, map := s.map, store := s.store, bus := s.bus } =
        { s with
          parser := { s.parser with
            events := [.noteOn s.parser.pendingNote v], onNote := s.parser.pendingNote, onVel := v, onValid := true,
            mstate := .waitingForNoteOn } } ∧
      t.config = { s.config with activeBank := 1 - s.config.activeBank } ∧
      t.map.length = s.cfg.C ∧ (∀ row ∈ t.map, row.length = s.cfg.S) ∧
      (∀ ch < s.cfg.C, ∀ sl < s.cfg.S,
        mapGet t ch sl = s.store.read (slotAddr s.cfg (1 - s.config.activeBank.toNat) ch sl)) ∧
      storesOf t.bus = [(s.cfg.ADDR_BANK, BitVec.ofNat 8 (1 - s.config.activeBank.toNat))] ∧
      StoresByte s t s.cfg.ADDR_BANK (BitVec.ofNat 8 (1 - s.config.activeBank.toNat))

/-- R174 and R188: in ProgramMap a qualifying note-on is added to the selected channel. A note already in the slot prefix changes
nothing; otherwise it takes the first unassigned slot, the sentinel re-marking the end behind it, or the last slot of a full
channel; the bytes go to the same slots of the active bank. -/
def Obligations.TeachingAddsTheNote : Prop :=
  ∀ (v : Data7) (s : State), s.cfg.valid = true → StoreOk s → ShapeOk s → v ≠ 0 →
    s.config.velThreshold.toNat ≤ v.toNat → s.mode.mode = .programMap → s.mode.progCh.toNat < s.cfg.C →
    let ch := s.mode.progCh.toNat
    let row := s.map.getD ch []
    let n : Byte := s.parser.pendingNote.setWidth 8
    let u := s.cfg.UNASSIGNED
    let len := (slotPrefix u row).length
    let addr := slotAddr s.cfg (bankNum s.config.activeBank) ch
    ∃ t, exec (.dataWaitingForOnVelocity v) s = .next t ∧
      { t with map := s.map, store := s.store, bus := s.bus } =
        { s with
          parser := { s.parser with
            events := [.noteOn s.parser.pendingNote v], onNote := s.parser.pendingNote, onVel := v, onValid := true,
            mstate := .waitingForNoteOn } } ∧
      (∀ k, k ≠ ch → t.map[k]? = s.map[k]?) ∧
      (n ∈ slotPrefix u row → t.map = s.map ∧ t.store = s.store ∧ t.bus = []) ∧
      (n ∉ slotPrefix u row → len < s.cfg.S →
        t.map.getD ch [] = (row.set len n).set (len + 1) u ∧
        slotPrefix u (t.map.getD ch []) = slotPrefix u row ++ [n] ∧
        t.bus = .set (addr len) n :: (if len + 1 < s.cfg.S then [.set (addr (len + 1)) u] else []) ∧
        ∀ a, t.store.read a =
          if a = addr len then n
          else if len + 1 < s.cfg.S ∧ a = addr (len + 1) then u
          else s.store.read a) ∧
      (n ∉ slotPrefix u row → len = s.cfg.S →
        t.map.getD ch [] = row.set (s.cfg.S - 1) n ∧
        slotPrefix u (t.map.getD ch []) = (slotPrefix u row).dropLast ++ [n] ∧
        t.bus = [.set (addr (s.cfg.S - 1)) n] ∧ StoresByte s t (addr (s.cfg.S - 1)) n)

/-! ### NoteMap -/

/-- R175: `addMapping` of the same note a second time returns 0 and changes nothing; on a full channel a new distinct note
overwrites the last slot and no other. -/
def Obligations.AddMappingTwiceIsDuplicate : Prop :=
  ∀ (s : State) (ch : Nat) (n v w : Data7), s.cfg.valid = true → ShapeOk s → ch < s.cfg.C →
    (addMapping ch n w true (addMapping ch n v true s).2) = (.duplicate, (addMapping ch n v true s).2) ∧
    ((slotPrefix s.cfg.UNASSIGNED (s.map.getD ch [])).length = s.cfg.S →
      ∀ sl, sl + 1 < s.cfg.S → mapGet (addMapping ch n v true s).2 ch sl = mapGet s ch sl)

/-- R176: `lookup` answers the first channel at or above the start whose slot prefix holds the note, and NotFound exactly when
there is none. -/
def Obligations.LookupFindsTheFirstChannel : Prop :=
  ∀ (u note : Byte) (m : List (List Byte)) (start : Nat),
    (∀ ch, lookup u m note start = some ch ↔
      start ≤ ch ∧ note ∈ slotPrefix u (m.getD ch []) ∧
        ∀ k, start ≤ k → k < ch → note ∉ slotPrefix u (m.getD k [])) ∧
    (lookup u m note start = none ↔ ∀ k, start ≤ k → note ∉ slotPrefix u (m.getD k []))

/-! ### TICK: output shaping and report -/

/-- R202 and R205: the duration function and the velocity transform, as numbers. -/
def Obligations.DurationAndVelocityFunctions : Prop :=
  ∀ (c : Cfg) (hold : Byte) (ch : Nat) (v : Data7),
    (dur c hold ch v).toNat =
      (match c.DUR_MODE, c.ROLE.getD ch .pad with
        | .fixed, _ => hold.toNat
        | .velocityDerived, .pedal => c.PEDAL_PULSE.toNat
        | .velocityDerived, .cymbal => 5 + 20 * v.toNat / 127
        | .velocityDerived, .pad => v.toNat / 12) ∧
    (xform c v).toNat =
      (match c.VEL_XFORM with
        | .identity => v.toNat
        | .inverted => 255 - 2 * v.toNat)

/-- R201, R203 and R204: each TICK, in every mode, loads a newly activated channel's countdown and then counts; the hold count
is the one after this tick's mode step (R240). -/
def Obligations.TickShapesEveryChannel : Prop :=
  ∀ (s t : State) (lines : List Bool), exec (.tick lines) s = .next t →
    t.channels.length = s.channels.length ∧
    ∀ (ch : Nat) (x : Channel), s.channels[ch]? = some x →
      let loaded := if x.trig then (dur s.cfg t.config.holdDuration ch x.lastVel).toNat else x.count.toNat
      ∃ y, t.channels[ch]? = some y ∧ y.active = decide (0 < loaded) ∧ y.count.toNat = loaded - 1 ∧ y.trig = false ∧
        y.lastVel = x.lastVel ∧ y.forceOn = x.forceOn

/-- R209, for a run of TICKs alone: with a fixed duration, an activation gives exactly HOLD_DURATION consecutive active ticks,
counted from the TICK that consumes it, and an inactive one after them. -/
def Obligations.PulseWidthIsHoldDuration : Prop :=
  ∀ (σ : Nat → State) (ch : Nat) (x : Channel),
    (∀ j ≤ (σ 1).config.holdDuration.toNat, ∃ lines, exec (.tick lines) (σ j) = .next (σ (j + 1))) →
    (σ 0).cfg.DUR_MODE = .fixed → (σ 0).channels[ch]? = some x → x.trig = true →
    ∀ j ≤ (σ 1).config.holdDuration.toNat, ∃ y, (σ (j + 1)).channels[ch]? = some y ∧
      y.active = decide (j < (σ 1).config.holdDuration.toNat)

/-- R270, R206 to R208, R272 and R273: the report registers after a TICK, from the registers after it. -/
def Obligations.TickLatchesTheReport : Prop :=
  ∀ (s t : State) (lines : List Bool), exec (.tick lines) s = .next t →
    t.report.outActive.length = t.channels.length ∧ t.report.velOut.length = t.channels.length ∧
    t.report.btnMask.length = t.buttons.length ∧
    (∀ (ch : Nat) (x : Channel), t.channels[ch]? = some x →
      t.report.outActive[ch]? =
        some (x.active || x.forceOn ||
          (t.cfg.PEDAL_OR && decide (t.cfg.HH_CH = some ch) &&
            decide (t.config.hhThreshold.toNat ≤ t.parser.pedalPos.toNat))) ∧
      t.report.velOut[ch]? = some (if x.active then xform t.cfg x.lastVel else 0)) ∧
    (∀ (i : Nat) (b : Button), t.buttons[i]? = some b →
      t.report.btnMask[i]? =
        some (if t.mode.cmdMode then b.pressedRaw else if t.mode.mode = .play then b.cls.pressed else false)) ∧
    (∀ u d l r : Bool, t.report.btnMask[t.cfg.BTN_UP]? = some u → t.report.btnMask[t.cfg.BTN_DOWN]? = some d →
      t.report.btnMask[t.cfg.BTN_LEFT]? = some l → t.report.btnMask[t.cfg.BTN_RIGHT]? = some r →
      t.report.hat =
        if u = d then (if l = r then .neutral else if r then .e else .w)
        else if u then (if l = r then .n else if r then .ne else .nw)
        else (if l = r then .s else if r then .se else .sw)) ∧
    t.report.axis0 = t.resp.x ∧ t.report.axis1 = t.resp.y ∧ t.report.axis2 = t.resp.z ∧ t.report.axis3 = 0

/-- R240 and R21: a TICK completes under every valid CFG; it takes the lines, and leaves the parser registers, the response, the
velocities, the forced outputs, CMD_MODE, LOG_EN, DISTRESS and the two thresholds it has no action for. -/
def Obligations.TickCompletesAndKeeps : Prop :=
  ∀ (s : State) (lines : List Bool), s.cfg.valid = true →
    ∃ t, exec (.tick lines) s = .next t ∧ t.lineRaw = lines ∧ t.parser = s.parser ∧ t.resp = s.resp ∧
      t.mode.cmdMode = s.mode.cmdMode ∧ t.mode.logEn = s.mode.logEn ∧ t.mode.distress = s.mode.distress ∧
      t.config.swapNote = s.config.swapNote ∧ t.config.hhThreshold = s.config.hhThreshold ∧
      t.channels.map (fun x => (x.lastVel, x.forceOn)) = s.channels.map (fun x => (x.lastVel, x.forceOn)) ∧
      t.cfg = s.cfg ∧ t.pending = s.pending ∧ t.awaitingReset = s.awaitingReset

/-! ### TICK: the buttons -/

/-- R220 to R225: one TICK of one button. -/
def Obligations.TickStepsEveryButton : Prop :=
  ∀ (s t : State) (lines : List Bool), s.cfg.valid = true → exec (.tick lines) s = .next t →
    t.buttons.length = s.buttons.length ∧
    ∀ (i : Nat) (b : Button) (p : Bool), s.buttons[i]? = some b → lines[i]? = some p →
      ∃ a, t.buttons[i]? = some a ∧ a.pressedRaw = p ∧ (a.changed = true ↔ a.cls ≠ b.cls) ∧
        (p ≠ b.pressedRaw → a.run = 0 ∧
          a.cls = if p then b.cls else if b.cls.held then { relHold := true } else { relPress := true }) ∧
        (p = b.pressedRaw → a.run.toNat = min (b.run.toNat + 1) s.cfg.T_SUPER ∧
          (a.run.toNat < s.cfg.T_PRESS → a.cls = b.cls) ∧
          (s.cfg.T_PRESS ≤ a.run.toNat → p = true → a.cls =
            { pressed := true
              held := b.cls.held || decide (s.cfg.T_HELD ≤ a.run.toNat)
              heldLong := b.cls.heldLong || decide (s.cfg.T_LONG ≤ a.run.toNat)
              heldSuperLong := b.cls.heldSuperLong || decide (s.cfg.T_SUPER ≤ a.run.toNat)
              relPress := false
              relHold := false }) ∧
          (s.cfg.T_PRESS ≤ a.run.toNat → p = false → a.cls =
            if b.cls.relPress || b.cls.relHold then {} else b.cls))

/-- R228 and R229: a button pressed from Up reaches each classification exactly when its threshold of stable ticks is reached,
keeps all of them, and CHANGED is 1 on those ticks alone. -/
def Obligations.HeldButtonClimbsTheThresholds : Prop :=
  ∀ (σ : Nat → State) (i n : Nat) (b : Button), (σ 0).cfg.valid = true → (σ 0).buttons[i]? = some b →
    b.pressedRaw = false → b.cls = {} →
    (∀ j ≤ n, ∃ lines, lines[i]? = some true ∧ exec (.tick lines) (σ j) = .next (σ (j + 1))) →
    ∀ k ≤ n, ∃ a, (σ (k + 1)).buttons[i]? = some a ∧ a.pressedRaw = true ∧ a.run.toNat = min k (σ 0).cfg.T_SUPER ∧
      a.cls =
        { pressed := decide ((σ 0).cfg.T_PRESS ≤ k), held := decide ((σ 0).cfg.T_HELD ≤ k),
          heldLong := decide ((σ 0).cfg.T_LONG ≤ k), heldSuperLong := decide ((σ 0).cfg.T_SUPER ≤ k),
          relPress := false, relHold := false } ∧
      (a.changed = true ↔
        k = (σ 0).cfg.T_PRESS ∨ k = (σ 0).cfg.T_HELD ∨ k = (σ 0).cfg.T_LONG ∨ k = (σ 0).cfg.T_SUPER)

/-- R221 and R224: a released button is ReleasedFromHold if it had reached Held and ReleasedFromPress otherwise, until it has
been stable for T_PRESS ticks, when it is Up. -/
def Obligations.ReleasedButtonDecaysToUp : Prop :=
  ∀ (σ : Nat → State) (i n : Nat) (b : Button), (σ 0).cfg.valid = true → (σ 0).buttons[i]? = some b →
    b.pressedRaw = true →
    (∀ j ≤ n, ∃ lines, lines[i]? = some false ∧ exec (.tick lines) (σ j) = .next (σ (j + 1))) →
    ∀ k ≤ n, ∃ a, (σ (k + 1)).buttons[i]? = some a ∧ a.pressedRaw = false ∧
      a.cls =
        if (σ 0).cfg.T_PRESS ≤ k then {}
        else if b.cls.held then { relHold := true }
        else { relPress := true }

/-! ### TICK: the mode controller -/

/-- R242: the transition table, and that a transition is no NoteMap operation and no store write. -/
def Obligations.TickTransitionTable : Prop :=
  ∀ (s : State) (lines : List Bool), s.cfg.valid = true → s.mode.cmdMode = false →
    ∃ t, exec (.tick lines) s = .next t ∧
      t.mode.mode =
        (match s.mode.mode, (tickRose lines s s.cfg.BTN_MODE).held, (tickRose lines s s.cfg.BTN_CYCLE).held with
          | .play, true, _ => .programMap
          | .play, false, _ => .play
          | .programMap, true, _ => .play
          | .programMap, false, true => .programVelocity
          | .programVelocity, _, true => .programDuration
          | .programDuration, _, true => .programMap
          | m, _, _ => m) ∧
      (t.mode.mode ≠ s.mode.mode →
        t.map = s.map ∧ t.store = s.store ∧ t.bus = [] ∧ t.config = s.config ∧
        (s.mode.mode = .play → t.mode.progValid = true ∧ t.mode.progCh = 0) ∧
        (t.mode.mode = .play → t.mode.progValid = false ∧ t.mode.progCh = s.mode.progCh) ∧
        (s.mode.mode ≠ .play → t.mode.mode ≠ .play →
          t.mode.progValid = s.mode.progValid ∧ t.mode.progCh = s.mode.progCh))

/-- R244: in command mode a TICK makes no transition and runs no action, while the debouncer keeps running. -/
def Obligations.CommandModeSuspendsTheController : Prop :=
  ∀ (s : State) (lines : List Bool), s.mode.cmdMode = true →
    ∃ t, exec (.tick lines) s = .next t ∧ t.mode = s.mode ∧ t.config = s.config ∧ t.map = s.map ∧ t.store = s.store ∧
      t.bus = [] ∧ t.buttons = stepButtons s.cfg s.buttons lines

/-- R266: a TICK on which no flag edge occurs leaves the mode registers, the configuration, MAP and STORE, in every mode. -/
def Obligations.TickWithoutEdgeDoesNothing : Prop :=
  ∀ (s : State) (lines : List Bool), (∀ i < s.buttons.length, tickRose lines s i = {}) →
    ∃ t, exec (.tick lines) s = .next t ∧ t.mode = s.mode ∧ t.config = s.config ∧ t.map = s.map ∧ t.store = s.store ∧
      t.bus = []

/-- R275: from Play, ticks on which no other button has an edge keep MAP, STORE and the configuration, and each Held edge of the
toggle button switches between Play and ProgramMap. -/
def Obligations.ToggleRoundTripKeepsTheMap : Prop :=
  ∀ (σ : Nat → State) (lines : Nat → List Bool) (n : Nat), (σ 0).cfg.valid = true → (σ 0).mode.mode = .play →
    (σ 0).mode.cmdMode = false →
    (∀ j < n, exec (.tick (lines j)) (σ j) = .next (σ (j + 1)) ∧
      ∀ i, i ≠ (σ j).cfg.BTN_MODE → tickRose (lines j) (σ j) i = {}) →
    (σ n).map = (σ 0).map ∧ (σ n).store = (σ 0).store ∧ (σ n).config = (σ 0).config ∧
    (σ n).channels.map (fun x => (x.lastVel, x.forceOn)) = (σ 0).channels.map (fun x => (x.lastVel, x.forceOn)) ∧
    (σ n).mode.mode =
      if ((List.range n).filter (fun j => (tickRose (lines j) (σ j) (σ j).cfg.BTN_MODE).held)).length % 2 = 0
      then .play else .programMap

/-- R241, R246 and R248: a TICK in Play that makes no transition. The swap gesture makes the other bank active, reloads the cache
from it and persists its number; without the gesture (or without a swap button) nothing but buttons, outputs and report moves,
whatever other edges there are. -/
def Obligations.SwapGestureCyclesBank : Prop :=
  ∀ (s : State) (lines : List Bool), s.cfg.valid = true → StoreOk s → s.mode.cmdMode = false →
    s.mode.mode = .play → (tickRose lines s s.cfg.BTN_MODE).held = false →
    let b := 1 - s.config.activeBank.toNat
    ∃ t, exec (.tick lines) s = .next t ∧ t.mode = s.mode ∧
      (∀ i, s.cfg.BTN_SWAP = some i → (tickRose lines s i).held = true →
        t.config = { s.config with activeBank := BitVec.ofNat 1 b } ∧
        t.map.length = s.cfg.C ∧ (∀ row ∈ t.map, row.length = s.cfg.S) ∧
        (∀ ch < s.cfg.C, ∀ sl < s.cfg.S, mapGet t ch sl = s.store.read (slotAddr s.cfg b ch sl)) ∧
        storesOf t.bus = [(s.cfg.ADDR_BANK, BitVec.ofNat 8 b)] ∧ StoresByte s t s.cfg.ADDR_BANK (BitVec.ofNat 8 b)) ∧
      ((∀ i, s.cfg.BTN_SWAP = some i → (tickRose lines s i).held = false) →
        t.config = s.config ∧ t.map = s.map ∧ t.store = s.store ∧ t.bus = [])

/-- R250: in ProgramMap Up and Down move the selected channel, stopping at the ends, Up first; they write PROG_CH only. -/
def Obligations.MapUpDownSelectTheChannel : Prop :=
  ∀ (s : State) (lines : List Bool), s.cfg.valid = true → s.mode.cmdMode = false → s.mode.mode = .programMap →
    (tickRose lines s s.cfg.BTN_MODE).held = false → (tickRose lines s s.cfg.BTN_CYCLE).held = false →
    let up := if (tickRose lines s s.cfg.BTN_UP).pressed then min (s.mode.progCh.toNat + 1) (s.cfg.C - 1)
      else s.mode.progCh.toNat
    let down := if (tickRose lines s s.cfg.BTN_DOWN).pressed then up - 1 else up
    ∃ t, exec (.tick lines) s = .next t ∧ t.mode.progCh.toNat = down ∧ { t.mode with progCh := s.mode.progCh } = s.mode ∧
      ((tickRose lines s s.cfg.BTN_LEFT).pressed = false → (tickRose lines s s.cfg.BTN_RIGHT).pressed = false →
        (tickRose lines s s.cfg.BTN_CANCEL).heldLong = false → (tickRose lines s s.cfg.BTN_CANCEL).heldSuperLong = false →
        t.config = s.config ∧ t.map = s.map ∧ t.store = s.store ∧ t.bus = [])

/-- R252: in ProgramMap Left selects bank 0 and Right bank 1, Left first; the channel selection does not matter. The bank is
selected whatever cancel does (what cancel then does to the selected bank is MapCancelClearsOrRestores). -/
def Obligations.MapLeftRightSelectTheBank : Prop :=
  ∀ (s : State) (lines : List Bool), s.cfg.valid = true → StoreOk s → s.mode.cmdMode = false →
    s.mode.mode = .programMap → (tickRose lines s s.cfg.BTN_MODE).held = false →
    (tickRose lines s s.cfg.BTN_CYCLE).held = false →
    (tickRose lines s s.cfg.BTN_LEFT).pressed = true ∨ (tickRose lines s s.cfg.BTN_RIGHT).pressed = true →
    let b := if (tickRose lines s s.cfg.BTN_RIGHT).pressed then 1 else 0
    ∃ t, exec (.tick lines) s = .next t ∧ t.config = { s.config with activeBank := BitVec.ofNat 1 b } ∧
      t.map.length = s.cfg.C ∧ (∀ row ∈ t.map, row.length = s.cfg.S) ∧
      t.store.read s.cfg.ADDR_BANK = BitVec.ofNat 8 b ∧
      ((tickRose lines s s.cfg.BTN_CANCEL).heldLong = false → (tickRose lines s s.cfg.BTN_CANCEL).heldSuperLong = false →
        (∀ ch < s.cfg.C, ∀ sl < s.cfg.S, mapGet t ch sl = s.store.read (slotAddr s.cfg b ch sl)) ∧
        StoresByte s t s.cfg.ADDR_BANK (BitVec.ofNat 8 b))

/-- R241, R250, R252, R254 and R255: everything a TICK in ProgramMap does to the configuration, MAP and STORE, with any edges, in
the order Up, Down, Left, Right, cancel held long, cancel held super-long. Cancel acts on the channel that Up and Down have
selected, in the bank that Left and Right have selected: held long it empties the channel, held super-long it restores the bank's
defaults; with neither edge it does nothing. -/
def Obligations.MapCancelClearsOrRestores : Prop :=
  ∀ (s : State) (lines : List Bool), s.cfg.valid = true → StoreOk s → s.mode.cmdMode = false →
    s.mode.mode = .programMap → s.mode.progCh.toNat < s.cfg.C →
    (tickRose lines s s.cfg.BTN_MODE).held = false → (tickRose lines s s.cfg.BTN_CYCLE).held = false →
    let left := (tickRose lines s s.cfg.BTN_LEFT).pressed
    let right := (tickRose lines s s.cfg.BTN_RIGHT).pressed
    let long := (tickRose lines s s.cfg.BTN_CANCEL).heldLong
    let superLong := (tickRose lines s s.cfg.BTN_CANCEL).heldSuperLong
    let up := if (tickRose lines s s.cfg.BTN_UP).pressed then min (s.mode.progCh.toNat + 1) (s.cfg.C - 1)
      else s.mode.progCh.toNat
    let ch := if (tickRose lines s s.cfg.BTN_DOWN).pressed then up - 1 else up
    let b := if right then 1 else if left then 0 else bankNum s.config.activeBank
    let addr := slotAddr s.cfg b
    let selected := if left || right
      then (List.range s.cfg.C).map (fun k => (List.range s.cfg.S).map (fun sl => s.store.read (addr k sl))) else s.map
    ∃ t, exec (.tick lines) s = .next t ∧
      t.config = { s.config with activeBank := BitVec.ofNat 1 b } ∧ t.mode = { s.mode with progCh := BitVec.ofNat 7 ch } ∧
      t.map =
        (if superLong then defaultTable s.cfg b
         else if long then selected.modify ch (fun row => row.set 0 s.cfg.UNASSIGNED)
         else selected) ∧
      (long = true → superLong = false → slotPrefix s.cfg.UNASSIGNED (t.map.getD ch []) = []) ∧
      storesOf t.bus =
        (if left then [(s.cfg.ADDR_BANK, 0)] else []) ++ (if right then [(s.cfg.ADDR_BANK, 1)] else []) ++
        (if long then [(addr ch 0, s.cfg.UNASSIGNED)] else []) ++ (if superLong then defaultWrites s.cfg b else []) ∧
      ((left || right) = true → t.store.read s.cfg.ADDR_BANK = BitVec.ofNat 8 b) ∧
      (long = true → superLong = false → t.store.read (addr ch 0) = s.cfg.UNASSIGNED) ∧
      (superLong = true → ∀ k < s.cfg.C, ∀ sl < s.cfg.S, t.store.read (addr k sl) = mapGet t k sl) ∧
      ∀ a, ((left || right) = true → a ≠ s.cfg.ADDR_BANK) → (long = true → a ≠ addr ch 0) →
        (superLong = true → ∀ k < s.cfg.C, ∀ sl < s.cfg.S, a ≠ addr k sl) → t.store.read a = s.store.read a

/-- R258 to R260: the actions of ProgramVelocity, in order Up, Down, cancel, each persisted. -/
def Obligations.VelocityActionsMoveTheThreshold : Prop :=
  ∀ (s : State) (lines : List Bool), s.cfg.valid = true → StoreOk s → s.mode.cmdMode = false →
    s.mode.mode = .programVelocity → (tickRose lines s s.cfg.BTN_CYCLE).held = false →
    let up := (tickRose lines s s.cfg.BTN_UP).pressed
    let down := (tickRose lines s s.cfg.BTN_DOWN).pressed
    let cancel := (tickRose lines s s.cfg.BTN_CANCEL).held
    let top := 6 * s.cfg.VEL_STEP
    let v1 := if up then min (s.config.velThreshold.toNat + s.cfg.VEL_STEP) top else s.config.velThreshold.toNat
    let v2 := if down then min (v1 - s.cfg.VEL_STEP) top else v1
    let v3 := if cancel then s.cfg.DEF_VELTHR else BitVec.ofNat 8 v2
    let addr := s.cfg.ADDR_VELTHR
    ∃ t, exec (.tick lines) s = .next t ∧ t.config = { s.config with velThreshold := v3 } ∧ t.mode = s.mode ∧
      t.map = s.map ∧
      storesOf t.bus =
        (if up then [(addr, BitVec.ofNat 8 v1)] else []) ++ (if down then [(addr, BitVec.ofNat 8 v2)] else []) ++
        (if cancel then [(addr, s.cfg.DEF_VELTHR)] else []) ∧
      ∀ a, t.store.read a = if a = addr ∧ (up || down || cancel) = true then v3 else s.store.read a

/-- R262 to R264: the actions of ProgramDuration, in order Up, Down, cancel, each persisted. -/
def Obligations.DurationActionsMoveTheHold : Prop :=
  ∀ (s : State) (lines : List Bool), s.cfg.valid = true → StoreOk s → s.mode.cmdMode = false →
    s.mode.mode = .programDuration → (tickRose lines s s.cfg.BTN_CYCLE).held = false →
    let up := (tickRose lines s s.cfg.BTN_UP).pressed
    let down := (tickRose lines s s.cfg.BTN_DOWN).pressed
    let cancel := (tickRose lines s s.cfg.BTN_CANCEL).held
    let v1 := if up then max 1 (min (s.config.holdDuration.toNat + 1) 6) else s.config.holdDuration.toNat
    let v2 := if down then max 1 (min (v1 - 1) 6) else v1
    let v3 := if cancel then s.cfg.DEF_HOLD else BitVec.ofNat 8 v2
    let addr := s.cfg.ADDR_HOLD
    ∃ t, exec (.tick lines) s = .next t ∧ t.config = { s.config with holdDuration := v3 } ∧ t.mode = s.mode ∧
      t.map = s.map ∧
      storesOf t.bus =
        (if up then [(addr, BitVec.ofNat 8 v1)] else []) ++ (if down then [(addr, BitVec.ofNat 8 v2)] else []) ++
        (if cancel then [(addr, s.cfg.DEF_HOLD)] else []) ∧
      ∀ a, t.store.read a = if a = addr ∧ (up || down || cancel) = true then v3 else s.store.read a

/-! ### HOSTREQ and LINKERR -/

/-- R286, R288, R294, R296, R298, R300, R302, R306 and R314: the requests that write the response and nothing else. -/
def Obligations.ReadRequestsWriteTheResponseOnly : Prop :=
  ∀ (a : HostArgs) (s : State),
    let answer := fun (x y : Byte) => { s with bus := [], resp := { x := x, y := y, z := a.seq } }
    exec (.getVersion a) s = .next (answer s.cfg.VERSION_MAJOR s.cfg.VERSION_MINOR) ∧
    exec (.getFeatures a) s = .next (answer (s.cfg.FEATURES.extractLsb' 0 8) (s.cfg.FEATURES.extractLsb' 8 8)) ∧
    exec (.getHold a) s = .next (answer s.config.holdDuration 0) ∧
    exec (.getVelthr a) s = .next (answer s.config.velThreshold 0) ∧
    exec (.getSwap a) s = .next (answer s.config.swapNote 0) ∧
    exec (.getHhthr a) s = .next (answer s.config.hhThreshold 0) ∧
    exec (.getBank a) s = .next (answer (if s.config.activeBank = 1 then 1 else 0) 0) ∧
    exec (.getMap a) s =
      .next (answer (if a.p0.toNat < s.cfg.C ∧ a.p1.toNat < s.cfg.S then mapGet s a.p0.toNat a.p1.toNat else 0) 0) ∧
    exec (.readLine a) s =
      .next (answer (if a.p0.toNat < s.cfg.NL ∧ s.lineRaw[a.p0.toNat]? = some true then 1 else 0) 0)

/-- R295, R297, R299 and R301: a SET in range writes one register and its store byte and answers the new value; a SET out of
range writes the response alone and answers the old one. -/
def Obligations.SetRequestsWriteThrough : Prop :=
  ∀ (a : HostArgs) (s : State), s.cfg.valid = true → StoreOk s →
    let ignored := fun (x : Byte) => { s with bus := [], resp := { x := x, y := 0, z := a.seq } }
    let written := fun (addr : Nat) (r : ConfigRegs) =>
      { s with
        config := r, resp := { x := a.p0, y := 0, z := a.seq }, store := s.store.write addr a.p0, bus := [.set addr a.p0] }
    (∀ (addr : Nat) (r : ConfigRegs), StoresByte s (written addr r) addr a.p0) ∧
    exec (.setHold a) s =
      (if 1 ≤ a.p0.toNat ∧ a.p0.toNat ≤ 6 then .next (written s.cfg.ADDR_HOLD { s.config with holdDuration := a.p0 })
       else .next (ignored s.config.holdDuration)) ∧
    exec (.setVelthr a) s =
      (if a.p0.toNat ≤ 127 then .next (written s.cfg.ADDR_VELTHR { s.config with velThreshold := a.p0 })
       else .next (ignored s.config.velThreshold)) ∧
    exec (.setSwap a) s = .next (written s.cfg.ADDR_SWAP { s.config with swapNote := a.p0 }) ∧
    exec (.setHhthr a) s =
      (if a.p0.toNat ≤ 127 then .next (written s.cfg.ADDR_HHTHR { s.config with hhThreshold := a.p0 })
       else .next (ignored s.config.hhThreshold))

/-- R303 and R186: SET_BANK of 0 or 1 selects the bank, reloads the cache and persists the number; any other value writes the
response alone. -/
def Obligations.SetBankSelectsTheBank : Prop :=
  ∀ (a : HostArgs) (s : State), s.cfg.valid = true → StoreOk s →
    (a.p0.toNat ≤ 1 → ∃ t, exec (.setBank a) s = .next t ∧
      { t with config := s.config, map := s.map, store := s.store, bus := s.bus } =
        { s with resp := { x := a.p0, y := 0, z := a.seq } } ∧
      t.config = { s.config with activeBank := BitVec.ofNat 1 a.p0.toNat } ∧
      t.map.length = s.cfg.C ∧ (∀ row ∈ t.map, row.length = s.cfg.S) ∧
      (∀ ch < s.cfg.C, ∀ sl < s.cfg.S, mapGet t ch sl = s.store.read (slotAddr s.cfg a.p0.toNat ch sl)) ∧
      storesOf t.bus = [(s.cfg.ADDR_BANK, a.p0)] ∧ StoresByte s t s.cfg.ADDR_BANK a.p0) ∧
    (2 ≤ a.p0.toNat → exec (.setBank a) s =
      .next { s with
        bus := [], resp := { x := if s.config.activeBank = 1 then 1 else 0, y := 0, z := a.seq } })

/-- R307 and R172: SET_MAP in range writes one cache element and the same entry of the active bank and answers the byte; out of
range it writes the response alone and answers 0. -/
def Obligations.SetMapWritesOneEntry : Prop :=
  ∀ (a : HostArgs) (s : State), s.cfg.valid = true → StoreOk s → ShapeOk s →
    let addr := slotAddr s.cfg (bankNum s.config.activeBank) a.p0.toNat a.p1.toNat
    (a.p0.toNat < s.cfg.C → a.p1.toNat < s.cfg.S → ∃ t, exec (.setMap a) s = .next t ∧
      { t with map := s.map, store := s.store, bus := s.bus } =
        { s with resp := { x := a.p2, y := 0, z := a.seq } } ∧
      (∀ ch sl, mapGet t ch sl = if ch = a.p0.toNat ∧ sl = a.p1.toNat then a.p2 else mapGet s ch sl) ∧
      t.map.map List.length = s.map.map List.length ∧
      t.bus = [.set addr a.p2] ∧ StoresByte s t addr a.p2) ∧
    (s.cfg.C ≤ a.p0.toNat ∨ s.cfg.S ≤ a.p1.toNat → exec (.setMap a) s =
      .next { s with bus := [], resp := { x := 0, y := 0, z := a.seq } })

/-- R312: FORCE_OUTPUT writes one FORCE_ON bit and the response; the output registers do not change in this event. -/
def Obligations.ForceOutputWritesOneBit : Prop :=
  ∀ (a : HostArgs) (s : State), s.channels.length = s.cfg.C →
    let on := decide (a.p1.toNat ≠ 0)
    exec (.forceOutput a) s =
      .next { s with
        bus := []
        resp := { x := if a.p0.toNat < s.cfg.C ∧ on then 1 else 0, y := 0, z := a.seq }
        channels := s.channels.mapIdx (fun ch x => if ch = a.p0.toNat then { x with forceOn := on } else x) }

/-- R290 and R291: entering command mode forces Play at once; leaving it clears LOG_EN; nothing else changes. -/
def Obligations.CommandModeEntryAndExit : Prop :=
  ∀ (a : HostArgs) (s : State),
    exec (.enterCmdMode a) s =
      .next { s with
        bus := [], resp := { x := 1, y := 0, z := a.seq },
        mode := { s.mode with cmdMode := true, mode := .play, progValid := false } } ∧
    exec (.exitCmdMode a) s =
      .next { s with
        bus := [], resp := { x := 0, y := 0, z := a.seq }, mode := { s.mode with cmdMode := false, logEn := false } }

/-- R281 and R284: an unknown opcode answers the complemented sequence number, which differs from it; an invalid prefix changes
nothing. -/
def Obligations.UnknownOpcodeAndInvalidPrefix : Prop :=
  ∀ (op pfx : Byte) (a : HostArgs) (s : State),
    exec (.hostUnknownOpcode op a) s =
      .next { s with bus := [], resp := { x := 0, y := 0, z := if a.seq.toNat = 0 then 1 else 0 } } ∧
    (if a.seq.toNat = 0 then (1 : Byte) else 0) ≠ a.seq ∧
    exec (.hostInvalidPrefix pfx op a) s = .next { s with bus := [] }

/-- R320 and R282: no request writes the parser, the buttons, the pulses, DISTRESS or the report; every request with a valid
prefix and a known opcode echoes its sequence number. -/
def Obligations.RequestsWriteOnlyTheirRegisters : Prop :=
  ∀ (s t : State) (m : MState) (req : List Byte) (i : Instr), decode s.cfg m (.hostreq req) = .ok i →
    exec i s = .next t →
    t.parser = s.parser ∧ t.buttons = s.buttons ∧ t.lineRaw = s.lineRaw ∧ t.report = s.report ∧
    t.mode.distress = s.mode.distress ∧ t.mode.progCh = s.mode.progCh ∧ t.cfg = s.cfg ∧ t.pending = s.pending ∧
    t.awaitingReset = s.awaitingReset ∧
    t.channels.map (fun x => { x with forceOn := false }) = s.channels.map (fun x => { x with forceOn := false }) ∧
    (req.head? ≠ some s.cfg.CMD_PREFIX → t = { s with bus := [] }) ∧
    (req.head? = some s.cfg.CMD_PREFIX → (∃ op ∈ s.cfg.opcodes.toList, req[1]? = some op) → req[2]? = some t.resp.z)

/-- R336: LINKERR. -/
def Obligations.LinkErrorReturnsToWaitingForStatus : Prop :=
  ∀ s : State,
    exec .linkErr s =
      .next { s with
        bus := []
        parser := { s.parser with mstate := .waitingForStatus }
        mode := { s.mode with distress := s.mode.distress || s.cfg.LINKERR_DISTRESS } }

/-! ### Encoding -/

/-- Decode after encode: every well-formed instruction, with every operand, in the parser state that selects it. -/
def Obligations.DecodeAfterEncode : Prop :=
  ∀ (c : Cfg) (m : MState) (i : Instr), c.valid = true → WellFormed c i = true →
    i.dataState = none ∨ i.dataState = some m → decode c m (encode c i) = .ok i

/-- Encode after decode: an event has one instruction in each parser state, and it is a well-formed one. -/
def Obligations.EncodeAfterDecode : Prop :=
  ∀ (c : Cfg) (m : MState) (e : Event) (i : Instr), decode c m e = .ok i →
    encode c i = e ∧ WellFormed c i = true ∧ (i.dataState = none ∨ i.dataState = some m)

/-- A few words written out from R93, R100 and R104 decode to the instructions they stand for. -/
def Obligations.DecodedWords : Prop :=
  decode refcfg .waitingForOnVelocity (.byte 0b10010011) = .ok (.noteOn 3) ∧
  decode refcfg .collectSysExData (.byte 0b11110111) = .ok .sysexEnd ∧
  decode refcfg .waitingForNoteOn (.byte 0b00100110) = .ok (.dataWaitingForNoteOn 38) ∧
  decode refcfg .waitingForStatus (.hostreq [0xA5, 0x21, 2, 3, 0, 0x2D, 0, 0]) = .ok (.setMap ⟨2, 3, 0, 0x2D, 0, 0⟩) ∧
  decode refcfg .waitingForStatus (.hostreq [0xA5, 0x7F, 7, 0, 0, 0, 0, 0]) =
    .ok (.hostUnknownOpcode 0x7F ⟨7, 0, 0, 0, 0, 0⟩) ∧
  decode refcfg .waitingForStatus (.hostreq [0x00, 0x00, 7, 0, 0, 0, 0, 0]) =
    .ok (.hostInvalidPrefix 0 0 ⟨7, 0, 0, 0, 0, 0⟩)

/-! ### The step -/

/-- A step takes the next presented event and executes the instruction it decodes to, on the state with that event taken from
the queue. The queue is the model's choice (notes/assumptions/3.md). -/
def Obligations.StepRunsTheDecodedInstruction : Prop :=
  ∀ (s : State) (e : Event) (rest : List Event) (i : Instr), s.cfg.valid = true → s.pending = e :: rest →
    decode s.cfg s.parser.mstate e = .ok i → s.awaitingReset = false ∨ isReset e = true →
    step s = exec i { s with pending := rest }

/-- When a step executes nothing: with no event presented the block holds its state (R350); events before the first RESET, an
invalid CFG and a malformed argument are refused (the model's reading of 93_implementation_defined.md U1 and U2, log entries
notes/assumptions/3.md, 4.md, 6.md and 9.md). -/
def Obligations.StepIdleAndRefusals : Prop :=
  ∀ (s : State) (e : Event) (rest : List Event) (why : DecodeError),
    (s.cfg.valid = false → step s = .refused .invalidCfg) ∧
    (s.cfg.valid = true → s.pending = [] → step s = .next s) ∧
    (s.cfg.valid = true → s.pending = e :: rest → s.awaitingReset = true → isReset e = false →
      step s = .refused .beforeFirstReset) ∧
    (s.cfg.valid = true → s.pending = e :: rest → s.awaitingReset = false ∨ isReset e = true →
      decode s.cfg s.parser.mstate e = .error why → step s = .refused (.malformedEvent why))

/-- R330 and R67: under a valid CFG every instruction completes in every state, with no store call at an address that does not
exist; CFG and the presented events stay as they are. -/
def Obligations.EveryInstructionCompletes : Prop :=
  ∀ (i : Instr) (s : State), s.cfg.valid = true →
    ∃ t, exec i s = .next t ∧ t.cfg = s.cfg ∧ t.pending = s.pending ∧ ∀ o ∈ t.bus, o.addr < s.cfg.STORE_SIZE

/-- R60 and R324: the store after an event is the store before it (at the first RESET, store0) with the event's own StoreWrites
applied in order; only the events R324 names make a store call. -/
def Obligations.StoreChangesOnlyByIssuedWrites : Prop :=
  ∀ (i : Instr) (s t : State), exec i s = .next t →
    ((∀ m, i ≠ .reset m) → t.store = s.store.replay t.bus) ∧
    (∀ m, i = .reset m → t.store = (bootStore m s).replay t.bus) ∧
    (t.bus ≠ [] →
      (∃ v, i = .dataWaitingForOnVelocity v) ∨ (∃ ls, i = .tick ls) ∨ (∃ a, i = .setHold a) ∨ (∃ a, i = .setVelthr a) ∨
      (∃ a, i = .setSwap a) ∨ (∃ a, i = .setHhthr a) ∨ (∃ a, i = .setBank a) ∨ (∃ a, i = .setMap a) ∨
      (∃ m, i = .reset m))

/-- R323, R345 and R337: which events write MODE, CMD_MODE, MSTATE and DISTRESS. -/
def Obligations.WritersOfTheModeRegisters : Prop :=
  ∀ (i : Instr) (s t : State), exec i s = .next t →
    (t.mode.mode ≠ s.mode.mode → (∃ ls, i = .tick ls) ∨ (∃ a, i = .enterCmdMode a) ∨ ∃ m, i = .reset m) ∧
    (t.mode.cmdMode ≠ s.mode.cmdMode →
      (∃ a, i = .enterCmdMode a) ∨ (∃ a, i = .exitCmdMode a) ∨ ∃ m, i = .reset m) ∧
    (t.parser.mstate ≠ s.parser.mstate → (∃ b, encode s.cfg i = .byte b) ∨ i = .linkErr ∨ ∃ m, i = .reset m) ∧
    (t.mode.distress ≠ s.mode.distress →
      (i = .linkErr ∧ s.cfg.LINKERR_DISTRESS = true ∧ t.mode.distress = true) ∨ ∃ m, i = .reset m)

/-- R71: every event keeps the cache and the configuration registers equal to the store, and RESET makes them so. -/
def Obligations.StepKeepsCacheCoherence : Prop :=
  ∀ (i : Instr) (s t : State), s.cfg.valid = true → StoreOk s → WellFormed s.cfg i = true →
    Coherent s ∨ (∃ m, i = .reset m) → exec i s = .next t → StoreOk t ∧ Coherent t

/-- R39 and R244: every event keeps PROG_VALID = 1 exactly outside Play with PROG_CH a channel, and Play in command mode. -/
def Obligations.StepKeepsModeRules : Prop :=
  ∀ (i : Instr) (s t : State), s.cfg.valid = true → ModeOk s → exec i s = .next t → ModeOk t

/-- R34, R35 and R48: every event keeps each button's classification among the seven values and its run length within T_SUPER,
and the sampled lines equal to the stored raw flags. -/
def Obligations.StepKeepsButtonRules : Prop :=
  ∀ (i : Instr) (s t : State), s.cfg.valid = true → s.buttons.length = s.cfg.NB → ButtonsOk s → LinesOk s →
    WellFormed s.cfg i = true → exec i s = .next t → ButtonsOk t ∧ LinesOk t

/-- The invariant of Safety.lean, all its parts together (R18, R34, R35, R39, R48, R60, R71, R121, R244), is kept by every
step. -/
def Obligations.StepKeepsInvariant : Prop :=
  ∀ s t : State, Inv s → step s = .next t → Inv t

end
end

