-- ==== Sys2Proof/Laws/State.lean ====
section
/-! SUPPORT. One lemma per field per named update, true by rfl: no later proof unfolds a record update. -/
namespace Sys2Proof.Machine

variable (s : State)

/-! ### beginEvent -/
@[simp] theorem beginEvent_cfg : (beginEvent s).cfg = s.cfg := rfl
@[simp] theorem beginEvent_parser : (beginEvent s).parser = s.parser := rfl
@[simp] theorem beginEvent_channels : (beginEvent s).channels = s.channels := rfl
@[simp] theorem beginEvent_buttons : (beginEvent s).buttons = s.buttons := rfl
@[simp] theorem beginEvent_mode : (beginEvent s).mode = s.mode := rfl
@[simp] theorem beginEvent_config : (beginEvent s).config = s.config := rfl
@[simp] theorem beginEvent_map : (beginEvent s).map = s.map := rfl
@[simp] theorem beginEvent_resp : (beginEvent s).resp = s.resp := rfl
@[simp] theorem beginEvent_lineRaw : (beginEvent s).lineRaw = s.lineRaw := rfl
@[simp] theorem beginEvent_report : (beginEvent s).report = s.report := rfl
@[simp] theorem beginEvent_store : (beginEvent s).store = s.store := rfl
@[simp] theorem beginEvent_bus : (beginEvent s).bus = [] := rfl
@[simp] theorem beginEvent_pending : (beginEvent s).pending = s.pending := rfl
@[simp] theorem beginEvent_awaitingReset : (beginEvent s).awaitingReset = s.awaitingReset := rfl

/-! ### setMState -/
@[simp] theorem setMState_cfg (m : MState) : (setMState m s).cfg = s.cfg := rfl
@[simp] theorem setMState_parser (m : MState) : (setMState m s).parser = { s.parser with mstate := m } := rfl
@[simp] theorem setMState_channels (m : MState) : (setMState m s).channels = s.channels := rfl
@[simp] theorem setMState_buttons (m : MState) : (setMState m s).buttons = s.buttons := rfl
@[simp] theorem setMState_mode (m : MState) : (setMState m s).mode = s.mode := rfl
@[simp] theorem setMState_config (m : MState) : (setMState m s).config = s.config := rfl
@[simp] theorem setMState_map (m : MState) : (setMState m s).map = s.map := rfl
@[simp] theorem setMState_resp (m : MState) : (setMState m s).resp = s.resp := rfl
@[simp] theorem setMState_lineRaw (m : MState) : (setMState m s).lineRaw = s.lineRaw := rfl
@[simp] theorem setMState_report (m : MState) : (setMState m s).report = s.report := rfl
@[simp] theorem setMState_store (m : MState) : (setMState m s).store = s.store := rfl
@[simp] theorem setMState_bus (m : MState) : (setMState m s).bus = s.bus := rfl
@[simp] theorem setMState_pending (m : MState) : (setMState m s).pending = s.pending := rfl
@[simp] theorem setMState_awaitingReset (m : MState) : (setMState m s).awaitingReset = s.awaitingReset := rfl

/-! ### setLastType -/
@[simp] theorem setLastType_cfg (b : Byte) : (setLastType b s).cfg = s.cfg := rfl
@[simp] theorem setLastType_parser (b : Byte) : (setLastType b s).parser = { s.parser with lastType := b } := rfl
@[simp] theorem setLastType_channels (b : Byte) : (setLastType b s).channels = s.channels := rfl
@[simp] theorem setLastType_buttons (b : Byte) : (setLastType b s).buttons = s.buttons := rfl
@[simp] theorem setLastType_mode (b : Byte) : (setLastType b s).mode = s.mode := rfl
@[simp] theorem setLastType_config (b : Byte) : (setLastType b s).config = s.config := rfl
@[simp] theorem setLastType_map (b : Byte) : (setLastType b s).map = s.map := rfl
@[simp] theorem setLastType_resp (b : Byte) : (setLastType b s).resp = s.resp := rfl
@[simp] theorem setLastType_lineRaw (b : Byte) : (setLastType b s).lineRaw = s.lineRaw := rfl
@[simp] theorem setLastType_report (b : Byte) : (setLastType b s).report = s.report := rfl
@[simp] theorem setLastType_store (b : Byte) : (setLastType b s).store = s.store := rfl
@[simp] theorem setLastType_bus (b : Byte) : (setLastType b s).bus = s.bus := rfl
@[simp] theorem setLastType_pending (b : Byte) : (setLastType b s).pending = s.pending := rfl
@[simp] theorem setLastType_awaitingReset (b : Byte) : (setLastType b s).awaitingReset = s.awaitingReset := rfl

/-! ### clearEvents -/
@[simp] theorem clearEvents_cfg : (clearEvents s).cfg = s.cfg := rfl
@[simp] theorem clearEvents_parser : (clearEvents s).parser = { s.parser with events := [] } := rfl
@[simp] theorem clearEvents_channels : (clearEvents s).channels = s.channels := rfl
@[simp] theorem clearEvents_buttons : (clearEvents s).buttons = s.buttons := rfl
@[simp] theorem clearEvents_mode : (clearEvents s).mode = s.mode := rfl
@[simp] theorem clearEvents_config : (clearEvents s).config = s.config := rfl
@[simp] theorem clearEvents_map : (clearEvents s).map = s.map := rfl
@[simp] theorem clearEvents_resp : (clearEvents s).resp = s.resp := rfl
@[simp] theorem clearEvents_lineRaw : (clearEvents s).lineRaw = s.lineRaw := rfl
@[simp] theorem clearEvents_report : (clearEvents s).report = s.report := rfl
@[simp] theorem clearEvents_store : (clearEvents s).store = s.store := rfl
@[simp] theorem clearEvents_bus : (clearEvents s).bus = s.bus := rfl
@[simp] theorem clearEvents_pending : (clearEvents s).pending = s.pending := rfl
@[simp] theorem clearEvents_awaitingReset : (clearEvents s).awaitingReset = s.awaitingReset := rfl

/-! ### emit -/
@[simp] theorem emit_cfg (e : MidiEvent) : (emit e s).cfg = s.cfg := rfl
@[simp] theorem emit_parser (e : MidiEvent) : (emit e s).parser = { s.parser with events := s.parser.events ++ [e] } := rfl
@[simp] theorem emit_channels (e : MidiEvent) : (emit e s).channels = s.channels := rfl
@[simp] theorem emit_buttons (e : MidiEvent) : (emit e s).buttons = s.buttons := rfl
@[simp] theorem emit_mode (e : MidiEvent) : (emit e s).mode = s.mode := rfl
@[simp] theorem emit_config (e : MidiEvent) : (emit e s).config = s.config := rfl
@[simp] theorem emit_map (e : MidiEvent) : (emit e s).map = s.map := rfl
@[simp] theorem emit_resp (e : MidiEvent) : (emit e s).resp = s.resp := rfl
@[simp] theorem emit_lineRaw (e : MidiEvent) : (emit e s).lineRaw = s.lineRaw := rfl
@[simp] theorem emit_report (e : MidiEvent) : (emit e s).report = s.report := rfl
@[simp] theorem emit_store (e : MidiEvent) : (emit e s).store = s.store := rfl
@[simp] theorem emit_bus (e : MidiEvent) : (emit e s).bus = s.bus := rfl
@[simp] theorem emit_pending (e : MidiEvent) : (emit e s).pending = s.pending := rfl
@[simp] theorem emit_awaitingReset (e : MidiEvent) : (emit e s).awaitingReset = s.awaitingReset := rfl

/-! ### resetSysex -/
@[simp] theorem resetSysex_cfg : (resetSysex s).cfg = s.cfg := rfl
@[simp] theorem resetSysex_parser : (resetSysex s).parser = { s.parser with sysexLen := 0 } := rfl
@[simp] theorem resetSysex_channels : (resetSysex s).channels = s.channels := rfl
@[simp] theorem resetSysex_buttons : (resetSysex s).buttons = s.buttons := rfl
@[simp] theorem resetSysex_mode : (resetSysex s).mode = s.mode := rfl
@[simp] theorem resetSysex_config : (resetSysex s).config = s.config := rfl
@[simp] theorem resetSysex_map : (resetSysex s).map = s.map := rfl
@[simp] theorem resetSysex_resp : (resetSysex s).resp = s.resp := rfl
@[simp] theorem resetSysex_lineRaw : (resetSysex s).lineRaw = s.lineRaw := rfl
@[simp] theorem resetSysex_report : (resetSysex s).report = s.report := rfl
@[simp] theorem resetSysex_store : (resetSysex s).store = s.store := rfl
@[simp] theorem resetSysex_bus : (resetSysex s).bus = s.bus := rfl
@[simp] theorem resetSysex_pending : (resetSysex s).pending = s.pending := rfl
@[simp] theorem resetSysex_awaitingReset : (resetSysex s).awaitingReset = s.awaitingReset := rfl

/-! ### setPending -/
@[simp] theorem setPending_cfg (d : Data7) : (setPending d s).cfg = s.cfg := rfl
@[simp] theorem setPending_parser (d : Data7) : (setPending d s).parser = { s.parser with pendingNote := d } := rfl
@[simp] theorem setPending_channels (d : Data7) : (setPending d s).channels = s.channels := rfl
@[simp] theorem setPending_buttons (d : Data7) : (setPending d s).buttons = s.buttons := rfl
@[simp] theorem setPending_mode (d : Data7) : (setPending d s).mode = s.mode := rfl
@[simp] theorem setPending_config (d : Data7) : (setPending d s).config = s.config := rfl
@[simp] theorem setPending_map (d : Data7) : (setPending d s).map = s.map := rfl
@[simp] theorem setPending_resp (d : Data7) : (setPending d s).resp = s.resp := rfl
@[simp] theorem setPending_lineRaw (d : Data7) : (setPending d s).lineRaw = s.lineRaw := rfl
@[simp] theorem setPending_report (d : Data7) : (setPending d s).report = s.report := rfl
@[simp] theorem setPending_store (d : Data7) : (setPending d s).store = s.store := rfl
@[simp] theorem setPending_bus (d : Data7) : (setPending d s).bus = s.bus := rfl
@[simp] theorem setPending_pending (d : Data7) : (setPending d s).pending = s.pending := rfl
@[simp] theorem setPending_awaitingReset (d : Data7) : (setPending d s).awaitingReset = s.awaitingReset := rfl

/-! ### clearOff -/
@[simp] theorem clearOff_cfg : (clearOff s).cfg = s.cfg := rfl
@[simp] theorem clearOff_parser : (clearOff s).parser = { s.parser with offValid := false } := rfl
@[simp] theorem clearOff_channels : (clearOff s).channels = s.channels := rfl
@[simp] theorem clearOff_buttons : (clearOff s).buttons = s.buttons := rfl
@[simp] theorem clearOff_mode : (clearOff s).mode = s.mode := rfl
@[simp] theorem clearOff_config : (clearOff s).config = s.config := rfl
@[simp] theorem clearOff_map : (clearOff s).map = s.map := rfl
@[simp] theorem clearOff_resp : (clearOff s).resp = s.resp := rfl
@[simp] theorem clearOff_lineRaw : (clearOff s).lineRaw = s.lineRaw := rfl
@[simp] theorem clearOff_report : (clearOff s).report = s.report := rfl
@[simp] theorem clearOff_store : (clearOff s).store = s.store := rfl
@[simp] theorem clearOff_bus : (clearOff s).bus = s.bus := rfl
@[simp] theorem clearOff_pending : (clearOff s).pending = s.pending := rfl
@[simp] theorem clearOff_awaitingReset : (clearOff s).awaitingReset = s.awaitingReset := rfl

/-! ### recordOff -/
@[simp] theorem recordOff_cfg (d : Data7) : (recordOff d s).cfg = s.cfg := rfl
@[simp] theorem recordOff_parser (d : Data7) : (recordOff d s).parser = { s.parser with offNote := d, offValid := true } := rfl
@[simp] theorem recordOff_channels (d : Data7) : (recordOff d s).channels = s.channels := rfl
@[simp] theorem recordOff_buttons (d : Data7) : (recordOff d s).buttons = s.buttons := rfl
@[simp] theorem recordOff_mode (d : Data7) : (recordOff d s).mode = s.mode := rfl
@[simp] theorem recordOff_config (d : Data7) : (recordOff d s).config = s.config := rfl
@[simp] theorem recordOff_map (d : Data7) : (recordOff d s).map = s.map := rfl
@[simp] theorem recordOff_resp (d : Data7) : (recordOff d s).resp = s.resp := rfl
@[simp] theorem recordOff_lineRaw (d : Data7) : (recordOff d s).lineRaw = s.lineRaw := rfl
@[simp] theorem recordOff_report (d : Data7) : (recordOff d s).report = s.report := rfl
@[simp] theorem recordOff_store (d : Data7) : (recordOff d s).store = s.store := rfl
@[simp] theorem recordOff_bus (d : Data7) : (recordOff d s).bus = s.bus := rfl
@[simp] theorem recordOff_pending (d : Data7) : (recordOff d s).pending = s.pending := rfl
@[simp] theorem recordOff_awaitingReset (d : Data7) : (recordOff d s).awaitingReset = s.awaitingReset := rfl

/-! ### invalidateOn -/
@[simp] theorem invalidateOn_cfg : (invalidateOn s).cfg = s.cfg := rfl
@[simp] theorem invalidateOn_parser : (invalidateOn s).parser = { s.parser with onValid := false } := rfl
@[simp] theorem invalidateOn_channels : (invalidateOn s).channels = s.channels := rfl
@[simp] theorem invalidateOn_buttons : (invalidateOn s).buttons = s.buttons := rfl
@[simp] theorem invalidateOn_mode : (invalidateOn s).mode = s.mode := rfl
@[simp] theorem invalidateOn_config : (invalidateOn s).config = s.config := rfl
@[simp] theorem invalidateOn_map : (invalidateOn s).map = s.map := rfl
@[simp] theorem invalidateOn_resp : (invalidateOn s).resp = s.resp := rfl
@[simp] theorem invalidateOn_lineRaw : (invalidateOn s).lineRaw = s.lineRaw := rfl
@[simp] theorem invalidateOn_report : (invalidateOn s).report = s.report := rfl
@[simp] theorem invalidateOn_store : (invalidateOn s).store = s.store := rfl
@[simp] theorem invalidateOn_bus : (invalidateOn s).bus = s.bus := rfl
@[simp] theorem invalidateOn_pending : (invalidateOn s).pending = s.pending := rfl
@[simp] theorem invalidateOn_awaitingReset : (invalidateOn s).awaitingReset = s.awaitingReset := rfl

/-! ### recordOn -/
@[simp] theorem recordOn_cfg (d v : Data7) : (recordOn d v s).cfg = s.cfg := rfl
@[simp] theorem recordOn_parser (d v : Data7) : (recordOn d v s).parser = { s.parser with onNote := d, onVel := v, onValid := true } := rfl
@[simp] theorem recordOn_channels (d v : Data7) : (recordOn d v s).channels = s.channels := rfl
@[simp] theorem recordOn_buttons (d v : Data7) : (recordOn d v s).buttons = s.buttons := rfl
@[simp] theorem recordOn_mode (d v : Data7) : (recordOn d v s).mode = s.mode := rfl
@[simp] theorem recordOn_config (d v : Data7) : (recordOn d v s).config = s.config := rfl
@[simp] theorem recordOn_map (d v : Data7) : (recordOn d v s).map = s.map := rfl
@[simp] theorem recordOn_resp (d v : Data7) : (recordOn d v s).resp = s.resp := rfl
@[simp] theorem recordOn_lineRaw (d v : Data7) : (recordOn d v s).lineRaw = s.lineRaw := rfl
@[simp] theorem recordOn_report (d v : Data7) : (recordOn d v s).report = s.report := rfl
@[simp] theorem recordOn_store (d v : Data7) : (recordOn d v s).store = s.store := rfl
@[simp] theorem recordOn_bus (d v : Data7) : (recordOn d v s).bus = s.bus := rfl
@[simp] theorem recordOn_pending (d v : Data7) : (recordOn d v s).pending = s.pending := rfl
@[simp] theorem recordOn_awaitingReset (d v : Data7) : (recordOn d v s).awaitingReset = s.awaitingReset := rfl

/-! ### setPedal -/
@[simp] theorem setPedal_cfg (d : Data7) : (setPedal d s).cfg = s.cfg := rfl
@[simp] theorem setPedal_parser (d : Data7) : (setPedal d s).parser = { s.parser with pedalPos := d } := rfl
@[simp] theorem setPedal_channels (d : Data7) : (setPedal d s).channels = s.channels := rfl
@[simp] theorem setPedal_buttons (d : Data7) : (setPedal d s).buttons = s.buttons := rfl
@[simp] theorem setPedal_mode (d : Data7) : (setPedal d s).mode = s.mode := rfl
@[simp] theorem setPedal_config (d : Data7) : (setPedal d s).config = s.config := rfl
@[simp] theorem setPedal_map (d : Data7) : (setPedal d s).map = s.map := rfl
@[simp] theorem setPedal_resp (d : Data7) : (setPedal d s).resp = s.resp := rfl
@[simp] theorem setPedal_lineRaw (d : Data7) : (setPedal d s).lineRaw = s.lineRaw := rfl
@[simp] theorem setPedal_report (d : Data7) : (setPedal d s).report = s.report := rfl
@[simp] theorem setPedal_store (d : Data7) : (setPedal d s).store = s.store := rfl
@[simp] theorem setPedal_bus (d : Data7) : (setPedal d s).bus = s.bus := rfl
@[simp] theorem setPedal_pending (d : Data7) : (setPedal d s).pending = s.pending := rfl
@[simp] theorem setPedal_awaitingReset (d : Data7) : (setPedal d s).awaitingReset = s.awaitingReset := rfl

/-! ### raiseDistress -/
@[simp] theorem raiseDistress_cfg : (raiseDistress s).cfg = s.cfg := rfl
@[simp] theorem raiseDistress_parser : (raiseDistress s).parser = s.parser := rfl
@[simp] theorem raiseDistress_channels : (raiseDistress s).channels = s.channels := rfl
@[simp] theorem raiseDistress_buttons : (raiseDistress s).buttons = s.buttons := rfl
@[simp] theorem raiseDistress_mode : (raiseDistress s).mode = { s.mode with distress := true } := rfl
@[simp] theorem raiseDistress_config : (raiseDistress s).config = s.config := rfl
@[simp] theorem raiseDistress_map : (raiseDistress s).map = s.map := rfl
@[simp] theorem raiseDistress_resp : (raiseDistress s).resp = s.resp := rfl
@[simp] theorem raiseDistress_lineRaw : (raiseDistress s).lineRaw = s.lineRaw := rfl
@[simp] theorem raiseDistress_report : (raiseDistress s).report = s.report := rfl
@[simp] theorem raiseDistress_store : (raiseDistress s).store = s.store := rfl
@[simp] theorem raiseDistress_bus : (raiseDistress s).bus = s.bus := rfl
@[simp] theorem raiseDistress_pending : (raiseDistress s).pending = s.pending := rfl
@[simp] theorem raiseDistress_awaitingReset : (raiseDistress s).awaitingReset = s.awaitingReset := rfl

/-! ### enterCommandMode -/
@[simp] theorem enterCommandMode_cfg : (enterCommandMode s).cfg = s.cfg := rfl
@[simp] theorem enterCommandMode_parser : (enterCommandMode s).parser = s.parser := rfl
@[simp] theorem enterCommandMode_channels : (enterCommandMode s).channels = s.channels := rfl
@[simp] theorem enterCommandMode_buttons : (enterCommandMode s).buttons = s.buttons := rfl
@[simp] theorem enterCommandMode_mode : (enterCommandMode s).mode = { s.mode with cmdMode := true, mode := .play, progValid := false } := rfl
@[simp] theorem enterCommandMode_config : (enterCommandMode s).config = s.config := rfl
@[simp] theorem enterCommandMode_map : (enterCommandMode s).map = s.map := rfl
@[simp] theorem enterCommandMode_resp : (enterCommandMode s).resp = s.resp := rfl
@[simp] theorem enterCommandMode_lineRaw : (enterCommandMode s).lineRaw = s.lineRaw := rfl
@[simp] theorem enterCommandMode_report : (enterCommandMode s).report = s.report := rfl
@[simp] theorem enterCommandMode_store : (enterCommandMode s).store = s.store := rfl
@[simp] theorem enterCommandMode_bus : (enterCommandMode s).bus = s.bus := rfl
@[simp] theorem enterCommandMode_pending : (enterCommandMode s).pending = s.pending := rfl
@[simp] theorem enterCommandMode_awaitingReset : (enterCommandMode s).awaitingReset = s.awaitingReset := rfl

/-! ### exitCommandMode -/
@[simp] theorem exitCommandMode_cfg : (exitCommandMode s).cfg = s.cfg := rfl
@[simp] theorem exitCommandMode_parser : (exitCommandMode s).parser = s.parser := rfl
@[simp] theorem exitCommandMode_channels : (exitCommandMode s).channels = s.channels := rfl
@[simp] theorem exitCommandMode_buttons : (exitCommandMode s).buttons = s.buttons := rfl
@[simp] theorem exitCommandMode_mode : (exitCommandMode s).mode = { s.mode with cmdMode := false, logEn := false } := rfl
@[simp] theorem exitCommandMode_config : (exitCommandMode s).config = s.config := rfl
@[simp] theorem exitCommandMode_map : (exitCommandMode s).map = s.map := rfl
@[simp] theorem exitCommandMode_resp : (exitCommandMode s).resp = s.resp := rfl
@[simp] theorem exitCommandMode_lineRaw : (exitCommandMode s).lineRaw = s.lineRaw := rfl
@[simp] theorem exitCommandMode_report : (exitCommandMode s).report = s.report := rfl
@[simp] theorem exitCommandMode_store : (exitCommandMode s).store = s.store := rfl
@[simp] theorem exitCommandMode_bus : (exitCommandMode s).bus = s.bus := rfl
@[simp] theorem exitCommandMode_pending : (exitCommandMode s).pending = s.pending := rfl
@[simp] theorem exitCommandMode_awaitingReset : (exitCommandMode s).awaitingReset = s.awaitingReset := rfl

/-! ### progChUp -/
@[simp] theorem progChUp_cfg : (progChUp s).cfg = s.cfg := rfl
@[simp] theorem progChUp_parser : (progChUp s).parser = s.parser := rfl
@[simp] theorem progChUp_channels : (progChUp s).channels = s.channels := rfl
@[simp] theorem progChUp_buttons : (progChUp s).buttons = s.buttons := rfl
@[simp] theorem progChUp_mode : (progChUp s).mode = { s.mode with progCh := chanUp s.cfg s.mode.progCh } := rfl
@[simp] theorem progChUp_config : (progChUp s).config = s.config := rfl
@[simp] theorem progChUp_map : (progChUp s).map = s.map := rfl
@[simp] theorem progChUp_resp : (progChUp s).resp = s.resp := rfl
@[simp] theorem progChUp_lineRaw : (progChUp s).lineRaw = s.lineRaw := rfl
@[simp] theorem progChUp_report : (progChUp s).report = s.report := rfl
@[simp] theorem progChUp_store : (progChUp s).store = s.store := rfl
@[simp] theorem progChUp_bus : (progChUp s).bus = s.bus := rfl
@[simp] theorem progChUp_pending : (progChUp s).pending = s.pending := rfl
@[simp] theorem progChUp_awaitingReset : (progChUp s).awaitingReset = s.awaitingReset := rfl

/-! ### progChDown -/
@[simp] theorem progChDown_cfg : (progChDown s).cfg = s.cfg := rfl
@[simp] theorem progChDown_parser : (progChDown s).parser = s.parser := rfl
@[simp] theorem progChDown_channels : (progChDown s).channels = s.channels := rfl
@[simp] theorem progChDown_buttons : (progChDown s).buttons = s.buttons := rfl
@[simp] theorem progChDown_mode : (progChDown s).mode = { s.mode with progCh := chanDown s.mode.progCh } := rfl
@[simp] theorem progChDown_config : (progChDown s).config = s.config := rfl
@[simp] theorem progChDown_map : (progChDown s).map = s.map := rfl
@[simp] theorem progChDown_resp : (progChDown s).resp = s.resp := rfl
@[simp] theorem progChDown_lineRaw : (progChDown s).lineRaw = s.lineRaw := rfl
@[simp] theorem progChDown_report : (progChDown s).report = s.report := rfl
@[simp] theorem progChDown_store : (progChDown s).store = s.store := rfl
@[simp] theorem progChDown_bus : (progChDown s).bus = s.bus := rfl
@[simp] theorem progChDown_pending : (progChDown s).pending = s.pending := rfl
@[simp] theorem progChDown_awaitingReset : (progChDown s).awaitingReset = s.awaitingReset := rfl

/-! ### respond -/
@[simp] theorem respond_cfg (a : HostArgs) : (respond a s).cfg = s.cfg := rfl
@[simp] theorem respond_parser (a : HostArgs) : (respond a s).parser = s.parser := rfl
@[simp] theorem respond_channels (a : HostArgs) : (respond a s).channels = s.channels := rfl
@[simp] theorem respond_buttons (a : HostArgs) : (respond a s).buttons = s.buttons := rfl
@[simp] theorem respond_mode (a : HostArgs) : (respond a s).mode = s.mode := rfl
@[simp] theorem respond_config (a : HostArgs) : (respond a s).config = s.config := rfl
@[simp] theorem respond_map (a : HostArgs) : (respond a s).map = s.map := rfl
@[simp] theorem respond_resp (a : HostArgs) : (respond a s).resp = ⟨0, 0, a.seq⟩ := rfl
@[simp] theorem respond_lineRaw (a : HostArgs) : (respond a s).lineRaw = s.lineRaw := rfl
@[simp] theorem respond_report (a : HostArgs) : (respond a s).report = s.report := rfl
@[simp] theorem respond_store (a : HostArgs) : (respond a s).store = s.store := rfl
@[simp] theorem respond_bus (a : HostArgs) : (respond a s).bus = s.bus := rfl
@[simp] theorem respond_pending (a : HostArgs) : (respond a s).pending = s.pending := rfl
@[simp] theorem respond_awaitingReset (a : HostArgs) : (respond a s).awaitingReset = s.awaitingReset := rfl

/-! ### answerX -/
@[simp] theorem answerX_cfg (v : Byte) : (answerX v s).cfg = s.cfg := rfl
@[simp] theorem answerX_parser (v : Byte) : (answerX v s).parser = s.parser := rfl
@[simp] theorem answerX_channels (v : Byte) : (answerX v s).channels = s.channels := rfl
@[simp] theorem answerX_buttons (v : Byte) : (answerX v s).buttons = s.buttons := rfl
@[simp] theorem answerX_mode (v : Byte) : (answerX v s).mode = s.mode := rfl
@[simp] theorem answerX_config (v : Byte) : (answerX v s).config = s.config := rfl
@[simp] theorem answerX_map (v : Byte) : (answerX v s).map = s.map := rfl
@[simp] theorem answerX_resp (v : Byte) : (answerX v s).resp = { s.resp with x := v } := rfl
@[simp] theorem answerX_lineRaw (v : Byte) : (answerX v s).lineRaw = s.lineRaw := rfl
@[simp] theorem answerX_report (v : Byte) : (answerX v s).report = s.report := rfl
@[simp] theorem answerX_store (v : Byte) : (answerX v s).store = s.store := rfl
@[simp] theorem answerX_bus (v : Byte) : (answerX v s).bus = s.bus := rfl
@[simp] theorem answerX_pending (v : Byte) : (answerX v s).pending = s.pending := rfl
@[simp] theorem answerX_awaitingReset (v : Byte) : (answerX v s).awaitingReset = s.awaitingReset := rfl

/-! ### answerY -/
@[simp] theorem answerY_cfg (v : Byte) : (answerY v s).cfg = s.cfg := rfl
@[simp] theorem answerY_parser (v : Byte) : (answerY v s).parser = s.parser := rfl
@[simp] theorem answerY_channels (v : Byte) : (answerY v s).channels = s.channels := rfl
@[simp] theorem answerY_buttons (v : Byte) : (answerY v s).buttons = s.buttons := rfl
@[simp] theorem answerY_mode (v : Byte) : (answerY v s).mode = s.mode := rfl
@[simp] theorem answerY_config (v : Byte) : (answerY v s).config = s.config := rfl
@[simp] theorem answerY_map (v : Byte) : (answerY v s).map = s.map := rfl
@[simp] theorem answerY_resp (v : Byte) : (answerY v s).resp = { s.resp with y := v } := rfl
@[simp] theorem answerY_lineRaw (v : Byte) : (answerY v s).lineRaw = s.lineRaw := rfl
@[simp] theorem answerY_report (v : Byte) : (answerY v s).report = s.report := rfl
@[simp] theorem answerY_store (v : Byte) : (answerY v s).store = s.store := rfl
@[simp] theorem answerY_bus (v : Byte) : (answerY v s).bus = s.bus := rfl
@[simp] theorem answerY_pending (v : Byte) : (answerY v s).pending = s.pending := rfl
@[simp] theorem answerY_awaitingReset (v : Byte) : (answerY v s).awaitingReset = s.awaitingReset := rfl

/-! ### forceChannel -/
@[simp] theorem forceChannel_cfg (ch : Nat) (on : Bool) : (forceChannel ch on s).cfg = s.cfg := rfl
@[simp] theorem forceChannel_parser (ch : Nat) (on : Bool) : (forceChannel ch on s).parser = s.parser := rfl
@[simp] theorem forceChannel_channels (ch : Nat) (on : Bool) : (forceChannel ch on s).channels = s.channels.modify ch (fun x => { x with forceOn := on }) := rfl
@[simp] theorem forceChannel_buttons (ch : Nat) (on : Bool) : (forceChannel ch on s).buttons = s.buttons := rfl
@[simp] theorem forceChannel_mode (ch : Nat) (on : Bool) : (forceChannel ch on s).mode = s.mode := rfl
@[simp] theorem forceChannel_config (ch : Nat) (on : Bool) : (forceChannel ch on s).config = s.config := rfl
@[simp] theorem forceChannel_map (ch : Nat) (on : Bool) : (forceChannel ch on s).map = s.map := rfl
@[simp] theorem forceChannel_resp (ch : Nat) (on : Bool) : (forceChannel ch on s).resp = s.resp := rfl
@[simp] theorem forceChannel_lineRaw (ch : Nat) (on : Bool) : (forceChannel ch on s).lineRaw = s.lineRaw := rfl
@[simp] theorem forceChannel_report (ch : Nat) (on : Bool) : (forceChannel ch on s).report = s.report := rfl
@[simp] theorem forceChannel_store (ch : Nat) (on : Bool) : (forceChannel ch on s).store = s.store := rfl
@[simp] theorem forceChannel_bus (ch : Nat) (on : Bool) : (forceChannel ch on s).bus = s.bus := rfl
@[simp] theorem forceChannel_pending (ch : Nat) (on : Bool) : (forceChannel ch on s).pending = s.pending := rfl
@[simp] theorem forceChannel_awaitingReset (ch : Nat) (on : Bool) : (forceChannel ch on s).awaitingReset = s.awaitingReset := rfl

/-! ### storeWrite -/
@[simp] theorem storeWrite_cfg (a : Nat) (v : Byte) : (storeWrite a v s).cfg = s.cfg := rfl
@[simp] theorem storeWrite_parser (a : Nat) (v : Byte) : (storeWrite a v s).parser = s.parser := rfl
@[simp] theorem storeWrite_channels (a : Nat) (v : Byte) : (storeWrite a v s).channels = s.channels := rfl
@[simp] theorem storeWrite_buttons (a : Nat) (v : Byte) : (storeWrite a v s).buttons = s.buttons := rfl
@[simp] theorem storeWrite_mode (a : Nat) (v : Byte) : (storeWrite a v s).mode = s.mode := rfl
@[simp] theorem storeWrite_config (a : Nat) (v : Byte) : (storeWrite a v s).config = s.config := rfl
@[simp] theorem storeWrite_map (a : Nat) (v : Byte) : (storeWrite a v s).map = s.map := rfl
@[simp] theorem storeWrite_resp (a : Nat) (v : Byte) : (storeWrite a v s).resp = s.resp := rfl
@[simp] theorem storeWrite_lineRaw (a : Nat) (v : Byte) : (storeWrite a v s).lineRaw = s.lineRaw := rfl
@[simp] theorem storeWrite_report (a : Nat) (v : Byte) : (storeWrite a v s).report = s.report := rfl
@[simp] theorem storeWrite_store (a : Nat) (v : Byte) : (storeWrite a v s).store = s.store.write a v := rfl
@[simp] theorem storeWrite_bus (a : Nat) (v : Byte) : (storeWrite a v s).bus = s.bus ++ [.set a v] := rfl
@[simp] theorem storeWrite_pending (a : Nat) (v : Byte) : (storeWrite a v s).pending = s.pending := rfl
@[simp] theorem storeWrite_awaitingReset (a : Nat) (v : Byte) : (storeWrite a v s).awaitingReset = s.awaitingReset := rfl

/-! ### storeRead -/
@[simp] theorem storeRead_cfg (a : Nat) : (storeRead a s).cfg = s.cfg := rfl
@[simp] theorem storeRead_parser (a : Nat) : (storeRead a s).parser = s.parser := rfl
@[simp] theorem storeRead_channels (a : Nat) : (storeRead a s).channels = s.channels := rfl
@[simp] theorem storeRead_buttons (a : Nat) : (storeRead a s).buttons = s.buttons := rfl
@[simp] theorem storeRead_mode (a : Nat) : (storeRead a s).mode = s.mode := rfl
@[simp] theorem storeRead_config (a : Nat) : (storeRead a s).config = s.config := rfl
@[simp] theorem storeRead_map (a : Nat) : (storeRead a s).map = s.map := rfl
@[simp] theorem storeRead_resp (a : Nat) : (storeRead a s).resp = s.resp := rfl
@[simp] theorem storeRead_lineRaw (a : Nat) : (storeRead a s).lineRaw = s.lineRaw := rfl
@[simp] theorem storeRead_report (a : Nat) : (storeRead a s).report = s.report := rfl
@[simp] theorem storeRead_store (a : Nat) : (storeRead a s).store = s.store := rfl
@[simp] theorem storeRead_bus (a : Nat) : (storeRead a s).bus = s.bus ++ [.get a] := rfl
@[simp] theorem storeRead_pending (a : Nat) : (storeRead a s).pending = s.pending := rfl
@[simp] theorem storeRead_awaitingReset (a : Nat) : (storeRead a s).awaitingReset = s.awaitingReset := rfl

/-! ### storeReads -/
@[simp] theorem storeReads_cfg (as : List Nat) : (storeReads as s).cfg = s.cfg := rfl
@[simp] theorem storeReads_parser (as : List Nat) : (storeReads as s).parser = s.parser := rfl
@[simp] theorem storeReads_channels (as : List Nat) : (storeReads as s).channels = s.channels := rfl
@[simp] theorem storeReads_buttons (as : List Nat) : (storeReads as s).buttons = s.buttons := rfl
@[simp] theorem storeReads_mode (as : List Nat) : (storeReads as s).mode = s.mode := rfl
@[simp] theorem storeReads_config (as : List Nat) : (storeReads as s).config = s.config := rfl
@[simp] theorem storeReads_map (as : List Nat) : (storeReads as s).map = s.map := rfl
@[simp] theorem storeReads_resp (as : List Nat) : (storeReads as s).resp = s.resp := rfl
@[simp] theorem storeReads_lineRaw (as : List Nat) : (storeReads as s).lineRaw = s.lineRaw := rfl
@[simp] theorem storeReads_report (as : List Nat) : (storeReads as s).report = s.report := rfl
@[simp] theorem storeReads_store (as : List Nat) : (storeReads as s).store = s.store := rfl
@[simp] theorem storeReads_bus (as : List Nat) : (storeReads as s).bus = s.bus ++ as.map .get := rfl
@[simp] theorem storeReads_pending (as : List Nat) : (storeReads as s).pending = s.pending := rfl
@[simp] theorem storeReads_awaitingReset (as : List Nat) : (storeReads as s).awaitingReset = s.awaitingReset := rfl

/-! ### writeHold -/
@[simp] theorem writeHold_cfg (v : Byte) : (writeHold v s).cfg = s.cfg := rfl
@[simp] theorem writeHold_parser (v : Byte) : (writeHold v s).parser = s.parser := rfl
@[simp] theorem writeHold_channels (v : Byte) : (writeHold v s).channels = s.channels := rfl
@[simp] theorem writeHold_buttons (v : Byte) : (writeHold v s).buttons = s.buttons := rfl
@[simp] theorem writeHold_mode (v : Byte) : (writeHold v s).mode = s.mode := rfl
@[simp] theorem writeHold_config (v : Byte) : (writeHold v s).config = { s.config with holdDuration := v } := rfl
@[simp] theorem writeHold_map (v : Byte) : (writeHold v s).map = s.map := rfl
@[simp] theorem writeHold_resp (v : Byte) : (writeHold v s).resp = s.resp := rfl
@[simp] theorem writeHold_lineRaw (v : Byte) : (writeHold v s).lineRaw = s.lineRaw := rfl
@[simp] theorem writeHold_report (v : Byte) : (writeHold v s).report = s.report := rfl
@[simp] theorem writeHold_store (v : Byte) : (writeHold v s).store = s.store.write s.cfg.ADDR_HOLD v := rfl
@[simp] theorem writeHold_bus (v : Byte) : (writeHold v s).bus = s.bus ++ [.set s.cfg.ADDR_HOLD v] := rfl
@[simp] theorem writeHold_pending (v : Byte) : (writeHold v s).pending = s.pending := rfl
@[simp] theorem writeHold_awaitingReset (v : Byte) : (writeHold v s).awaitingReset = s.awaitingReset := rfl

/-! ### writeVelThreshold -/
@[simp] theorem writeVelThreshold_cfg (v : Byte) : (writeVelThreshold v s).cfg = s.cfg := rfl
@[simp] theorem writeVelThreshold_parser (v : Byte) : (writeVelThreshold v s).parser = s.parser := rfl
@[simp] theorem writeVelThreshold_channels (v : Byte) : (writeVelThreshold v s).channels = s.channels := rfl
@[simp] theorem writeVelThreshold_buttons (v : Byte) : (writeVelThreshold v s).buttons = s.buttons := rfl
@[simp] theorem writeVelThreshold_mode (v : Byte) : (writeVelThreshold v s).mode = s.mode := rfl
@[simp] theorem writeVelThreshold_config (v : Byte) : (writeVelThreshold v s).config = { s.config with velThreshold := v } := rfl
@[simp] theorem writeVelThreshold_map (v : Byte) : (writeVelThreshold v s).map = s.map := rfl
@[simp] theorem writeVelThreshold_resp (v : Byte) : (writeVelThreshold v s).resp = s.resp := rfl
@[simp] theorem writeVelThreshold_lineRaw (v : Byte) : (writeVelThreshold v s).lineRaw = s.lineRaw := rfl
@[simp] theorem writeVelThreshold_report (v : Byte) : (writeVelThreshold v s).report = s.report := rfl
@[simp] theorem writeVelThreshold_store (v : Byte) : (writeVelThreshold v s).store = s.store.write s.cfg.ADDR_VELTHR v := rfl
@[simp] theorem writeVelThreshold_bus (v : Byte) : (writeVelThreshold v s).bus = s.bus ++ [.set s.cfg.ADDR_VELTHR v] := rfl
@[simp] theorem writeVelThreshold_pending (v : Byte) : (writeVelThreshold v s).pending = s.pending := rfl
@[simp] theorem writeVelThreshold_awaitingReset (v : Byte) : (writeVelThreshold v s).awaitingReset = s.awaitingReset := rfl

/-! ### writeSwapNote -/
@[simp] theorem writeSwapNote_cfg (v : Byte) : (writeSwapNote v s).cfg = s.cfg := rfl
@[simp] theorem writeSwapNote_parser (v : Byte) : (writeSwapNote v s).parser = s.parser := rfl
@[simp] theorem writeSwapNote_channels (v : Byte) : (writeSwapNote v s).channels = s.channels := rfl
@[simp] theorem writeSwapNote_buttons (v : Byte) : (writeSwapNote v s).buttons = s.buttons := rfl
@[simp] theorem writeSwapNote_mode (v : Byte) : (writeSwapNote v s).mode = s.mode := rfl
@[simp] theorem writeSwapNote_config (v : Byte) : (writeSwapNote v s).config = { s.config with swapNote := v } := rfl
@[simp] theorem writeSwapNote_map (v : Byte) : (writeSwapNote v s).map = s.map := rfl
@[simp] theorem writeSwapNote_resp (v : Byte) : (writeSwapNote v s).resp = s.resp := rfl
@[simp] theorem writeSwapNote_lineRaw (v : Byte) : (writeSwapNote v s).lineRaw = s.lineRaw := rfl
@[simp] theorem writeSwapNote_report (v : Byte) : (writeSwapNote v s).report = s.report := rfl
@[simp] theorem writeSwapNote_store (v : Byte) : (writeSwapNote v s).store = s.store.write s.cfg.ADDR_SWAP v := rfl
@[simp] theorem writeSwapNote_bus (v : Byte) : (writeSwapNote v s).bus = s.bus ++ [.set s.cfg.ADDR_SWAP v] := rfl
@[simp] theorem writeSwapNote_pending (v : Byte) : (writeSwapNote v s).pending = s.pending := rfl
@[simp] theorem writeSwapNote_awaitingReset (v : Byte) : (writeSwapNote v s).awaitingReset = s.awaitingReset := rfl

/-! ### writeHhThreshold -/
@[simp] theorem writeHhThreshold_cfg (v : Byte) : (writeHhThreshold v s).cfg = s.cfg := rfl
@[simp] theorem writeHhThreshold_parser (v : Byte) : (writeHhThreshold v s).parser = s.parser := rfl
@[simp] theorem writeHhThreshold_channels (v : Byte) : (writeHhThreshold v s).channels = s.channels := rfl
@[simp] theorem writeHhThreshold_buttons (v : Byte) : (writeHhThreshold v s).buttons = s.buttons := rfl
@[simp] theorem writeHhThreshold_mode (v : Byte) : (writeHhThreshold v s).mode = s.mode := rfl
@[simp] theorem writeHhThreshold_config (v : Byte) : (writeHhThreshold v s).config = { s.config with hhThreshold := v } := rfl
@[simp] theorem writeHhThreshold_map (v : Byte) : (writeHhThreshold v s).map = s.map := rfl
@[simp] theorem writeHhThreshold_resp (v : Byte) : (writeHhThreshold v s).resp = s.resp := rfl
@[simp] theorem writeHhThreshold_lineRaw (v : Byte) : (writeHhThreshold v s).lineRaw = s.lineRaw := rfl
@[simp] theorem writeHhThreshold_report (v : Byte) : (writeHhThreshold v s).report = s.report := rfl
@[simp] theorem writeHhThreshold_store (v : Byte) : (writeHhThreshold v s).store = s.store.write s.cfg.ADDR_HHTHR v := rfl
@[simp] theorem writeHhThreshold_bus (v : Byte) : (writeHhThreshold v s).bus = s.bus ++ [.set s.cfg.ADDR_HHTHR v] := rfl
@[simp] theorem writeHhThreshold_pending (v : Byte) : (writeHhThreshold v s).pending = s.pending := rfl
@[simp] theorem writeHhThreshold_awaitingReset (v : Byte) : (writeHhThreshold v s).awaitingReset = s.awaitingReset := rfl

/-! ### activateAll -/
@[simp] theorem activateAll_cfg (n v : Data7) : (activateAll n v s).cfg = s.cfg := rfl
@[simp] theorem activateAll_parser (n v : Data7) : (activateAll n v s).parser = s.parser := rfl
@[simp] theorem activateAll_channels (n v : Data7) : (activateAll n v s).channels = activateLoop s.cfg.UNASSIGNED s.map (zext7 n) v s.map.length (lookup s.cfg.UNASSIGNED s.map (zext7 n) 0) s.channels := rfl
@[simp] theorem activateAll_buttons (n v : Data7) : (activateAll n v s).buttons = s.buttons := rfl
@[simp] theorem activateAll_mode (n v : Data7) : (activateAll n v s).mode = s.mode := rfl
@[simp] theorem activateAll_config (n v : Data7) : (activateAll n v s).config = s.config := rfl
@[simp] theorem activateAll_map (n v : Data7) : (activateAll n v s).map = s.map := rfl
@[simp] theorem activateAll_resp (n v : Data7) : (activateAll n v s).resp = s.resp := rfl
@[simp] theorem activateAll_lineRaw (n v : Data7) : (activateAll n v s).lineRaw = s.lineRaw := rfl
@[simp] theorem activateAll_report (n v : Data7) : (activateAll n v s).report = s.report := rfl
@[simp] theorem activateAll_store (n v : Data7) : (activateAll n v s).store = s.store := rfl
@[simp] theorem activateAll_bus (n v : Data7) : (activateAll n v s).bus = s.bus := rfl
@[simp] theorem activateAll_pending (n v : Data7) : (activateAll n v s).pending = s.pending := rfl
@[simp] theorem activateAll_awaitingReset (n v : Data7) : (activateAll n v s).awaitingReset = s.awaitingReset := rfl

/-! ### shaperTick -/
@[simp] theorem shaperTick_cfg : (shaperTick s).cfg = s.cfg := rfl
@[simp] theorem shaperTick_parser : (shaperTick s).parser = s.parser := rfl
@[simp] theorem shaperTick_channels : (shaperTick s).channels = s.channels.mapIdx (fun ch x => countPulse (loadPulse s.cfg s.config.holdDuration ch x)) := rfl
@[simp] theorem shaperTick_buttons : (shaperTick s).buttons = s.buttons := rfl
@[simp] theorem shaperTick_mode : (shaperTick s).mode = s.mode := rfl
@[simp] theorem shaperTick_config : (shaperTick s).config = s.config := rfl
@[simp] theorem shaperTick_map : (shaperTick s).map = s.map := rfl
@[simp] theorem shaperTick_resp : (shaperTick s).resp = s.resp := rfl
@[simp] theorem shaperTick_lineRaw : (shaperTick s).lineRaw = s.lineRaw := rfl
@[simp] theorem shaperTick_report : (shaperTick s).report = s.report := rfl
@[simp] theorem shaperTick_store : (shaperTick s).store = s.store := rfl
@[simp] theorem shaperTick_bus : (shaperTick s).bus = s.bus := rfl
@[simp] theorem shaperTick_pending : (shaperTick s).pending = s.pending := rfl
@[simp] theorem shaperTick_awaitingReset : (shaperTick s).awaitingReset = s.awaitingReset := rfl

/-! ### sampleStep -/
@[simp] theorem sampleStep_cfg (ls : List Bool) : (sampleStep ls s).cfg = s.cfg := rfl
@[simp] theorem sampleStep_parser (ls : List Bool) : (sampleStep ls s).parser = s.parser := rfl
@[simp] theorem sampleStep_channels (ls : List Bool) : (sampleStep ls s).channels = s.channels := rfl
@[simp] theorem sampleStep_buttons (ls : List Bool) : (sampleStep ls s).buttons = stepButtons s.cfg s.buttons ls := rfl
@[simp] theorem sampleStep_mode (ls : List Bool) : (sampleStep ls s).mode = s.mode := rfl
@[simp] theorem sampleStep_config (ls : List Bool) : (sampleStep ls s).config = s.config := rfl
@[simp] theorem sampleStep_map (ls : List Bool) : (sampleStep ls s).map = s.map := rfl
@[simp] theorem sampleStep_resp (ls : List Bool) : (sampleStep ls s).resp = s.resp := rfl
@[simp] theorem sampleStep_lineRaw (ls : List Bool) : (sampleStep ls s).lineRaw = ls := rfl
@[simp] theorem sampleStep_report (ls : List Bool) : (sampleStep ls s).report = s.report := rfl
@[simp] theorem sampleStep_store (ls : List Bool) : (sampleStep ls s).store = s.store := rfl
@[simp] theorem sampleStep_bus (ls : List Bool) : (sampleStep ls s).bus = s.bus := rfl
@[simp] theorem sampleStep_pending (ls : List Bool) : (sampleStep ls s).pending = s.pending := rfl
@[simp] theorem sampleStep_awaitingReset (ls : List Bool) : (sampleStep ls s).awaitingReset = s.awaitingReset := rfl

/-! ### reportStep -/
@[simp] theorem reportStep_cfg : (reportStep s).cfg = s.cfg := rfl
@[simp] theorem reportStep_parser : (reportStep s).parser = s.parser := rfl
@[simp] theorem reportStep_channels : (reportStep s).channels = s.channels := rfl
@[simp] theorem reportStep_buttons : (reportStep s).buttons = s.buttons := rfl
@[simp] theorem reportStep_mode : (reportStep s).mode = s.mode := rfl
@[simp] theorem reportStep_config : (reportStep s).config = s.config := rfl
@[simp] theorem reportStep_map : (reportStep s).map = s.map := rfl
@[simp] theorem reportStep_resp : (reportStep s).resp = s.resp := rfl
@[simp] theorem reportStep_lineRaw : (reportStep s).lineRaw = s.lineRaw := rfl
@[simp] theorem reportStep_store : (reportStep s).store = s.store := rfl
@[simp] theorem reportStep_bus : (reportStep s).bus = s.bus := rfl
@[simp] theorem reportStep_pending : (reportStep s).pending = s.pending := rfl
@[simp] theorem reportStep_awaitingReset : (reportStep s).awaitingReset = s.awaitingReset := rfl

/-! ### The StoreWrites among the store calls -/

@[simp] theorem storesOf_nil : storesOf [] = [] := rfl
@[simp] theorem storesOf_cons_set (a : Nat) (v : Byte) (ops : List StoreOp) :
    storesOf (.set a v :: ops) = (a, v) :: storesOf ops := rfl
@[simp] theorem storesOf_cons_get (a : Nat) (ops : List StoreOp) : storesOf (.get a :: ops) = storesOf ops := rfl
@[simp] theorem storesOf_append (p q : List StoreOp) : storesOf (p ++ q) = storesOf p ++ storesOf q := by simp [storesOf]
@[simp] theorem storesOf_gets (l : List Nat) : storesOf (l.map .get) = [] := by induction l <;> simp [*]
@[simp] theorem storesOf_sets (l : List (Nat × Byte)) : storesOf (l.map (fun w => .set w.1 w.2)) = l := by
  induction l <;> simp [*]

end Sys2Proof.Machine
end

