-- ==== Sys2Proof/Laws/Memory.lean ====
section
/-! SUPPORT. The store as data: read after write, the canonical form, and what an image or a sequence of calls leaves. -/
namespace Sys2Proof.Machine

/-! ### The canonical form -/

@[simp] theorem wf_nil : Memory.wf [] = true := rfl

/-- The canonical form, one pair at a time. -/
theorem wf_cons (k : Nat) (v : Byte) (m : Memory) :
    Memory.wf ((k, v) :: m) = true ↔ v ≠ Memory.blank ∧ (∀ p ∈ m.head?, k < p.1) ∧ Memory.wf m = true := by
  cases m with
  | nil => simp [Memory.wf]
  | cons p m => obtain ⟨b, w⟩ := p; simp [Memory.wf, and_assoc]

/-- The tail of a canonical store is canonical. -/
theorem wf_tail {p : Host.Cell} {m : Memory} (h : Memory.wf (p :: m) = true) : Memory.wf m = true :=
  ((wf_cons p.1 p.2 m).1 h).2.2

/-- Every later address is above the first. -/
theorem wf_head_lt {k : Nat} {v : Byte} {m : Memory} (h : Memory.wf ((k, v) :: m) = true) : ∀ p ∈ m, k < p.1 := by
  induction m generalizing k v with
  | nil => simp
  | cons q m ih =>
    obtain ⟨b, w⟩ := q
    have h' := (wf_cons k v _).1 h
    have hb : k < b := by simpa using h'.2.1
    intro p hp
    rcases List.mem_cons.1 hp with rfl | hp
    · exact hb
    · exact lt_trans hb (ih h'.2.2 p hp)

/-- An address below every listed one reads as blank. -/
theorem read_of_lt {m : Memory} {a : Nat} (h : ∀ p ∈ m, a < p.1) : m.read a = Memory.blank := by
  induction m with
  | nil => rfl
  | cons p m ih =>
    obtain ⟨k, v⟩ := p
    have hk : a < k := h (k, v) (by simp)
    simp only [Memory.read, (show ¬ k = a by omega), if_false]
    exact ih (fun q hq => h q (List.mem_cons_of_mem _ hq))

/-! ### Read after write -/

/-- A write leaves every other address alone. -/
theorem read_write_of_ne (m : Memory) {a b : Nat} (v : Byte) (h : b ≠ a) : (m.write a v).read b = m.read b := by
  have h' : ¬ a = b := fun e => h e.symm
  induction m with
  | nil => simp only [Memory.write]; split <;> simp [Memory.read, h']
  | cons p m ih =>
    obtain ⟨k, w⟩ := p
    simp only [Memory.write]
    split
    · split <;> simp [Memory.read, h']
    · split
      · next he => subst he; split <;> simp [Memory.read, h']
      · simp only [Memory.read, ih]

/-- A written address reads as the byte written. -/
theorem read_write_self {m : Memory} (h : m.wf = true) (a : Nat) (v : Byte) : (m.write a v).read a = v := by
  induction m with
  | nil =>
    simp only [Memory.write]
    split
    · next hv => simp [Memory.read, hv]
    · simp [Memory.read]
  | cons p m ih =>
    obtain ⟨k, w⟩ := p
    have hlt := wf_head_lt h
    simp only [Memory.write]
    split
    · next hk =>
      split
      · next hv =>
        rw [hv]
        exact read_of_lt (fun p hp => by
          rcases List.mem_cons.1 hp with rfl | hp
          · exact hk
          · exact lt_trans hk (hlt p hp))
      · simp [Memory.read]
    · split
      · next he =>
        subst he
        split
        · next hv => rw [hv]; exact read_of_lt hlt
        · simp [Memory.read]
      · next hne =>
        simp only [Memory.read, (show ¬ k = a from fun e => hne e.symm), if_false]
        exact ih (wf_tail h)

/-- A write, read at any address. -/
theorem read_write {m : Memory} (h : m.wf = true) (a b : Nat) (v : Byte) :
    (m.write a v).read b = if b = a then v else m.read b := by
  split
  · next e => subst e; exact read_write_self h _ v
  · next e => exact read_write_of_ne m v e

/-! ### Every operation keeps the canonical form -/

/-- The first address of a written store is the old first one or the written one. -/
theorem head_write (m : Memory) (a : Nat) (v : Byte) : ∀ p ∈ (m.write a v), p.1 = a ∨ p ∈ m := by
  induction m with
  | nil =>
    intro p hp
    simp only [Memory.write] at hp
    split at hp
    · simp at hp
    · simp at hp; exact .inl (by rw [hp])
  | cons q m ih =>
    obtain ⟨k, w⟩ := q
    intro p hp
    simp only [Memory.write] at hp
    split at hp
    · split at hp
      · exact .inr hp
      · rcases List.mem_cons.1 hp with rfl | hp
        · exact .inl rfl
        · exact .inr hp
    · split at hp
      · split at hp
        · exact .inr (List.mem_cons_of_mem _ hp)
        · rcases List.mem_cons.1 hp with rfl | hp
          · exact .inl rfl
          · exact .inr (List.mem_cons_of_mem _ hp)
      · rcases List.mem_cons.1 hp with rfl | hp
        · exact .inr (by simp)
        · rcases ih p hp with h | h
          · exact .inl h
          · exact .inr (List.mem_cons_of_mem _ h)

/-- A write keeps the canonical form. -/
theorem wf_write {m : Memory} (h : m.wf = true) (a : Nat) (v : Byte) : (m.write a v).wf = true := by
  induction m with
  | nil =>
    simp only [Memory.write]
    split
    · rfl
    · next hv => simpa [Memory.wf] using hv
  | cons p m ih =>
    obtain ⟨k, w⟩ := p
    have h' := (wf_cons k w m).1 h
    have hlt := wf_head_lt h
    simp only [Memory.write]
    split
    · next hk =>
      split
      · exact h
      · next hv => exact (wf_cons a v _).2 ⟨hv, by simpa using hk, h⟩
    · split
      · next he =>
        subst he
        split
        · exact h'.2.2
        · next hv => exact (wf_cons a v m).2 ⟨hv, h'.2.1, h'.2.2⟩
      · next hnk hne =>
        refine (wf_cons k w _).2 ⟨h'.1, ?_, ih h'.2.2⟩
        intro p hp
        rcases head_write m a v p (List.mem_of_mem_head? hp) with e | e
        · omega
        · exact hlt p e

/-- A write lists no address but the old ones and the written one. -/
theorem bound_write {m : Memory} {n a : Nat} (v : Byte) (h : ∀ p ∈ m, p.1 < n) (ha : a < n) :
    ∀ p ∈ m.write a v, p.1 < n := by
  intro p hp
  rcases head_write m a v p hp with e | e
  · omega
  · exact h p e

/-- A canonical store is determined by what its addresses read as. -/
theorem wf_ext {m m' : Memory} (h : m.wf = true) (h' : m'.wf = true) (e : ∀ a, m.read a = m'.read a) : m = m' := by
  induction m generalizing m' with
  | nil =>
    cases m' with
    | nil => rfl
    | cons p m' =>
      obtain ⟨k, v⟩ := p
      have := e k
      simp only [Memory.read, if_true] at this
      exact absurd this.symm ((wf_cons k v m').1 h').1
  | cons p m ih =>
    obtain ⟨k, v⟩ := p
    have hv := ((wf_cons k v m).1 h).1
    have hlt := wf_head_lt h
    cases m' with
    | nil =>
      have := e k
      simp only [Memory.read, if_true] at this
      exact absurd this hv
    | cons q m' =>
      obtain ⟨k', v'⟩ := q
      have hv' := ((wf_cons k' v' m').1 h').1
      have hlt' := wf_head_lt h'
      have hk : k = k' := by
        rcases lt_trichotomy k k' with c | c | c
        · have := e k
          simp only [Memory.read, if_true, (show ¬ k' = k by omega), if_false] at this
          rw [read_of_lt (fun p hp => lt_trans c (hlt' p hp))] at this
          exact absurd this hv
        · exact c
        · have := e k'
          simp only [Memory.read, if_true, (show ¬ k = k' by omega), if_false] at this
          rw [read_of_lt (fun p hp => lt_trans c (hlt p hp))] at this
          exact absurd this.symm hv'
      subst hk
      have hvv : v = v' := by have := e k; simpa [Memory.read] using this
      subst hvv
      rw [ih (wf_tail h) (wf_tail h') (fun a => ?_)]
      have := e a
      by_cases c : k = a
      · subst c; rw [read_of_lt hlt, read_of_lt hlt']
      · simpa [Memory.read, c] using this

/-- Writing the byte an address already reads as changes nothing. -/
theorem write_read {m : Memory} (h : m.wf = true) (a : Nat) : m.write a (m.read a) = m :=
  wf_ext (wf_write h a _) h (fun b => by rw [read_write h]; split <;> simp_all)

/-! ### An image -/

/-- The pairs of an image at `k` list addresses of the image only. -/
theorem ofImage_bound (bs : List Byte) (k : Nat) : ∀ p ∈ Memory.ofImage bs k, k ≤ p.1 ∧ p.1 < k + bs.length := by
  induction bs generalizing k with
  | nil => simp [Memory.ofImage]
  | cons b bs ih =>
    intro p hp
    simp only [Memory.ofImage] at hp
    simp only [List.length_cons]
    split at hp
    · have := ih (k + 1) p hp; omega
    · rcases List.mem_cons.1 hp with rfl | hp
      · simp
      · have := ih (k + 1) p hp; omega

/-- An image is canonical. -/
theorem ofImage_wf (bs : List Byte) (k : Nat) : (Memory.ofImage bs k).wf = true := by
  induction bs generalizing k with
  | nil => rfl
  | cons b bs ih =>
    simp only [Memory.ofImage]
    split
    · exact ih _
    · next hb =>
      refine (wf_cons k b _).2 ⟨hb, ?_, ih _⟩
      intro p hp
      have := ofImage_bound bs (k + 1) p (List.mem_of_mem_head? hp)
      omega

/-- An address of an image reads as its byte, any other as blank. -/
theorem ofImage_read (bs : List Byte) (k a : Nat) :
    (Memory.ofImage bs k).read a = if k ≤ a then bs.getD (a - k) Memory.blank else Memory.blank := by
  induction bs generalizing k with
  | nil => simp [Memory.ofImage, Memory.read]
  | cons b bs ih =>
    have key : (Memory.ofImage bs (k + 1)).read a = if k = a then Memory.blank
        else if k ≤ a then (b :: bs).getD (a - k) Memory.blank else Memory.blank := by
      rw [ih]
      rcases lt_trichotomy a k with c | c | c
      · simp [show ¬ k + 1 ≤ a by omega, show ¬ k = a by omega, show ¬ k ≤ a by omega]
      · simp [c]
      · obtain ⟨d, hd⟩ : ∃ d, a - k = d + 1 := ⟨a - k - 1, by omega⟩
        simp [show k + 1 ≤ a by omega, show ¬ k = a by omega, show k ≤ a by omega, hd, show a - (k + 1) = d by omega]
    simp only [Memory.ofImage]
    split
    · next hb =>
      rw [key]
      split
      · next e => subst e; simp [hb]
      · rfl
    · simp only [Memory.read]
      split
      · next e => subst e; simp
      · next e => rw [key, if_neg e]

/-! ### A sequence of calls -/

@[simp] theorem replay_nil (m : Memory) : m.replay [] = m := rfl

/-- Two sequences of calls after each other. -/
theorem replay_append (m : Memory) (xs ys : List StoreOp) : m.replay (xs ++ ys) = (m.replay xs).replay ys := by
  induction xs generalizing m with
  | nil => rfl
  | cons x xs ih => cases x <;> simp [Memory.replay, ih]

/-- Reads leave the store alone. -/
theorem replay_gets (m : Memory) (as : List Nat) : m.replay (as.map .get) = m := by
  induction as with
  | nil => rfl
  | cons a as ih => simpa [Memory.replay] using ih

/-- A sequence of calls keeps the canonical form. -/
theorem wf_replay {m : Memory} (h : m.wf = true) (ops : List StoreOp) : (m.replay ops).wf = true := by
  induction ops generalizing m with
  | nil => exact h
  | cons x ops ih =>
    cases x with
    | get a => exact ih h
    | set a v => exact ih (wf_write h a v)

/-- A sequence of calls lists no address but the old ones and its own. -/
theorem bound_replay {m : Memory} {n : Nat} {ops : List StoreOp} (h : ∀ p ∈ m, p.1 < n) (ho : ∀ o ∈ ops, o.addr < n) :
    ∀ p ∈ m.replay ops, p.1 < n := by
  induction ops generalizing m with
  | nil => exact h
  | cons x ops ih =>
    have hx := ho x (by simp)
    have hr : ∀ o ∈ ops, o.addr < n := fun o c => ho o (List.mem_cons_of_mem _ c)
    cases x with
    | get a => exact ih h hr
    | set a v => exact ih (bound_write v h hx) hr

/-- An address that no call sets reads as before. -/
theorem read_replay_of_not_set {m : Memory} {ops : List StoreOp} {a : Nat} (h : ∀ v, StoreOp.set a v ∉ ops) :
    (m.replay ops).read a = m.read a := by
  induction ops generalizing m with
  | nil => rfl
  | cons x ops ih =>
    have hr : ∀ v, StoreOp.set a v ∉ ops := fun v c => h v (List.mem_cons_of_mem _ c)
    cases x with
    | get b => exact ih hr
    | set b v =>
      have hb : a ≠ b := fun e => h v (by simp [e])
      rw [Memory.replay, ih hr, read_write_of_ne m v hb]

/-- The store of reset is canonical. -/
theorem defaultImage_wf : Memory.defaultImage.wf = true := by decide

end Sys2Proof.Machine
end

