-- ==== Sys2Proof/Laws/Config.lean ====
section
/-! SUPPORT. What a valid CFG says (R10, R62), and where the store addresses of R62 and R63 lie. -/
namespace Sys2Proof.Machine

/-- `allDistinct` is `List.Nodup`. -/
theorem allDistinct_iff {α : Type} [DecidableEq α] (l : List α) : allDistinct l = true ↔ l.Nodup := by
  induction l with
  | nil => simp [allDistinct]
  | cons x xs ih => simp [allDistinct, ih]

/-- The parts of validity. -/
theorem valid_iff (c : Cfg) :
    c.valid = true ↔ c.sizesOk = true ∧ c.thresholdsOk = true ∧ c.buttonsOk = true ∧ c.defaultsOk = true ∧
      c.tablesOk = true ∧ allDistinct c.opcodes.toList = true ∧ c.layoutOk = true := by
  simp [Cfg.valid, and_assoc]

section
variable {c : Cfg} (h : c.valid = true)
include h

theorem valid_sizes : 1 ≤ c.C ∧ c.C ≤ 128 ∧ 1 ≤ c.S ∧ c.S ≤ 255 ∧ 1 ≤ c.NB ∧ c.NB ≤ c.NL ∧ 128 ≤ c.UNASSIGNED.toNat := by
  have := ((valid_iff c).1 h).1
  simp [Cfg.sizesOk] at this
  omega

theorem valid_thresholds :
    1 ≤ c.T_PRESS ∧ c.T_PRESS ≤ c.T_HELD ∧ c.T_HELD ≤ c.T_LONG ∧ c.T_LONG ≤ c.T_SUPER ∧ c.T_SUPER ≤ 65535 := by
  simpa [Cfg.thresholdsOk] using ((valid_iff c).1 h).2.1

theorem valid_defaults :
    1 ≤ c.VEL_STEP ∧ 6 * c.VEL_STEP ≤ 127 ∧ 1 ≤ c.DEF_HOLD.toNat ∧ c.DEF_HOLD.toNat ≤ 6 ∧
      c.DEF_VELTHR.toNat ≤ 6 * c.VEL_STEP ∧ c.DEF_BANK.toNat ≤ 1 ∧ c.DEF_HHTHR.toNat ≤ 127 := by
  simpa [Cfg.defaultsOk] using ((valid_iff c).1 h).2.2.2.1

/-- The designated buttons are pairwise different. -/
theorem valid_buttons_nodup : c.designated.Nodup := by
  have := ((valid_iff c).1 h).2.2.1
  simp only [Cfg.buttonsOk, Bool.and_eq_true] at this
  exact (allDistinct_iff _).1 this.1.1

/-- Every designated button exists. -/
theorem valid_button_lt : ∀ i ∈ c.designated, i < c.NB := by
  have := ((valid_iff c).1 h).2.2.1
  simp only [Cfg.buttonsOk, Bool.and_eq_true, List.all_eq_true, decide_eq_true_eq] at this
  exact this.1.2

/-- The shape of both default tables. -/
theorem valid_tables : c.tableOk c.DEFAULT_MAP0 = true ∧ c.tableOk c.DEFAULT_MAP1 = true ∧ c.ROLE.length = c.C := by
  have := ((valid_iff c).1 h).2.2.2.2.1
  simp only [Cfg.tablesOk, Bool.and_eq_true, decide_eq_true_eq] at this
  exact ⟨this.1.1.1, this.1.1.2, this.1.2⟩

/-- The opcode numbers are pairwise different. -/
theorem valid_opcodes_nodup : c.opcodes.toList.Nodup := (allDistinct_iff _).1 ((valid_iff c).1 h).2.2.2.2.2.1

/-- The store layout of R62. -/
theorem valid_layout :
    c.addrs.Nodup ∧ (∀ a ∈ c.addrs, a < c.STORE_SIZE) ∧
      (∀ a ∈ c.addrs, a < c.BANK_BASE0 ∨ c.BANK_BASE0 + c.C * c.S ≤ a) ∧
      (∀ a ∈ c.addrs, a < c.BANK_BASE1 ∨ c.BANK_BASE1 + c.C * c.S ≤ a) ∧
      (c.BANK_BASE0 + c.C * c.S ≤ c.BANK_BASE1 ∨ c.BANK_BASE1 + c.C * c.S ≤ c.BANK_BASE0) ∧
      c.BANK_BASE0 + c.C * c.S ≤ c.STORE_SIZE ∧ c.BANK_BASE1 + c.C * c.S ≤ c.STORE_SIZE := by
  have := ((valid_iff c).1 h).2.2.2.2.2.2
  simp only [Cfg.layoutOk, Bool.and_eq_true, List.all_eq_true, decide_eq_true_eq] at this
  obtain ⟨⟨⟨⟨h1, h2⟩, h3⟩, h4⟩, h5⟩ := this
  exact ⟨(allDistinct_iff _).1 h1, h2, h3, h4, h5⟩

theorem addr_lt : ∀ a ∈ c.addrs, a < c.STORE_SIZE := (valid_layout h).2.1

@[simp] theorem addr_version_lt : c.ADDR_VERSION < c.STORE_SIZE := addr_lt h _ (by simp [Cfg.addrs])
@[simp] theorem addr_hold_lt : c.ADDR_HOLD < c.STORE_SIZE := addr_lt h _ (by simp [Cfg.addrs])
@[simp] theorem addr_velthr_lt : c.ADDR_VELTHR < c.STORE_SIZE := addr_lt h _ (by simp [Cfg.addrs])
@[simp] theorem addr_bank_lt : c.ADDR_BANK < c.STORE_SIZE := addr_lt h _ (by simp [Cfg.addrs])
@[simp] theorem addr_swap_lt : c.ADDR_SWAP < c.STORE_SIZE := addr_lt h _ (by simp [Cfg.addrs])
@[simp] theorem addr_hhthr_lt : c.ADDR_HHTHR < c.STORE_SIZE := addr_lt h _ (by simp [Cfg.addrs])

omit h in
/-- An entry of a bank lies in the bank's region. -/
theorem slot_in_region {b ch sl : Nat} (hc : ch < c.C) (hs : sl < c.S) :
    bankBase c b ≤ slotAddr c b ch sl ∧ slotAddr c b ch sl < bankBase c b + c.C * c.S := by
  have : (ch + 1) * c.S ≤ c.C * c.S := Nat.mul_le_mul_right _ hc
  rw [Nat.add_mul] at this
  simp only [slotAddr]
  omega

/-- Every entry address exists (R63, R67). -/
theorem slotAddr_lt {b ch sl : Nat} (hc : ch < c.C) (hs : sl < c.S) : slotAddr c b ch sl < c.STORE_SIZE := by
  obtain ⟨_, _, _, _, _, h6, h7⟩ := valid_layout h
  have := (slot_in_region (b := b) hc hs).2
  simp only [bankBase] at this
  split at this <;> omega

/-- No entry address is a configuration address (R62). -/
theorem slotAddr_ne_addr {b ch sl : Nat} (hc : ch < c.C) (hs : sl < c.S) : slotAddr c b ch sl ∉ c.addrs := by
  obtain ⟨_, _, h3, h4, _⟩ := valid_layout h
  have hr := slot_in_region (b := b) hc hs
  intro ha
  have h3 := h3 _ ha
  have h4 := h4 _ ha
  simp only [bankBase] at hr
  split at hr <;> omega

omit h in
/-- Different entries of one bank have different addresses. -/
theorem slotAddr_inj {b ch sl ch' sl' : Nat} (hs : sl < c.S) (hs' : sl' < c.S)
    (e : slotAddr c b ch sl = slotAddr c b ch' sl') : ch = ch' ∧ sl = sl' := by
  simp only [slotAddr, Nat.add_assoc, Nat.add_left_cancel_iff] at e
  have hch : ch = ch' := by
    have e' := congrArg (· / c.S) e
    simpa [Nat.mul_add_div (show 0 < c.S by omega), Nat.mul_comm _ c.S, Nat.div_eq_of_lt hs, Nat.div_eq_of_lt hs'] using e'
  subst hch
  exact ⟨rfl, by omega⟩

/-- Entries of different banks have different addresses. -/
theorem slotAddr_banks_ne {ch sl ch' sl' : Nat} (hc : ch < c.C) (hs : sl < c.S) (hc' : ch' < c.C) (hs' : sl' < c.S)
    {b b' : Nat} (hb : (b = 0) ≠ (b' = 0)) : slotAddr c b ch sl ≠ slotAddr c b' ch' sl' := by
  obtain ⟨_, _, _, _, h5, _⟩ := valid_layout h
  have h1 := slot_in_region (b := b) hc hs
  have h2 := slot_in_region (b := b') hc' hs'
  intro e
  rw [e] at h1
  simp only [bankBase] at h1 h2
  by_cases e0 : b = 0 <;> by_cases e1 : b' = 0 <;> simp only [e0, e1, if_true, if_false, ne_eq, not_true] at hb h1 h2 <;> omega

omit h in
/-- The members of a bank's address table. -/
theorem mem_bankAddrs {b a : Nat} : a ∈ (bankAddrs c b).flatten ↔ ∃ ch < c.C, ∃ sl < c.S, a = slotAddr c b ch sl := by
  simp [bankAddrs, eq_comm]

/-- Every address of a bank exists. -/
theorem bankAddrs_lt (b : Nat) : ∀ a ∈ (bankAddrs c b).flatten, a < c.STORE_SIZE := by
  intro a ha
  obtain ⟨ch, hc, sl, hs, rfl⟩ := mem_bankAddrs.1 ha
  exact slotAddr_lt h hc hs

/-- Every default write is to an entry of its bank. -/
theorem defaultWrites_lt (b : Nat) : ∀ w ∈ defaultWrites c b, w.1 < c.STORE_SIZE := by
  intro w hw
  simp only [defaultWrites, List.mem_flatMap, List.mem_range, List.mem_map] at hw
  obtain ⟨ch, hc, sl, hs, rfl⟩ := hw
  exact slotAddr_lt h hc hs

end

end Sys2Proof.Machine
end

