-- ==== Sys2Proof/Laws/Ops.lean ====
section
/-! SUPPORT. What an event can do as a whole (`onEvent`), and what every shared operation can do to the store: `StoreStep` says
once that a store only changes by the calls on the bus, that all of them exist, and that CFG and the queue stay. -/
namespace Sys2Proof.Machine

/-! ### onEvent -/

/-- No call of the event is at an address that does not exist. -/
theorem badAddress_none_iff (s : State) : badAddress s = none ↔ ∀ o ∈ s.bus, o.addr < s.cfg.STORE_SIZE := by
  simp [badAddress]

/-- If an event answers a next state, it is the operation's, and every call exists. -/
theorem onEvent_next {s t : State} {f : State → State} :
    onEvent s f = .next t ↔ t = f (beginEvent s) ∧ ∀ o ∈ t.bus, o.addr < t.cfg.STORE_SIZE := by
  simp only [onEvent]
  split
  · next h =>
    have h' := (badAddress_none_iff _).1 h
    constructor
    · intro e; cases e; exact ⟨rfl, h'⟩
    · rintro ⟨rfl, -⟩; rfl
  · next a h =>
    constructor
    · intro e; cases e
    · rintro ⟨rfl, h'⟩
      rw [(badAddress_none_iff _).2 h'] at h; cases h

/-- An event whose calls all exist answers a next state. -/
theorem onEvent_of_bus {s : State} {f : State → State}
    (h : ∀ o ∈ (f (beginEvent s)).bus, o.addr < (f (beginEvent s)).cfg.STORE_SIZE) :
    onEvent s f = .next (f (beginEvent s)) := onEvent_next.2 ⟨rfl, h⟩

/-- An event without a store call answers a next state. -/
theorem onEvent_of_bus_nil {s : State} {f : State → State} (h : (f (beginEvent s)).bus = []) :
    onEvent s f = .next (f (beginEvent s)) := onEvent_of_bus (by simp [h])

/-- If a BYTE event answers a next state, it is the operation's after EVENTS is cleared. -/
theorem onByte_next {s t : State} {f : State → State} :
    onByte s f = .next t ↔ t = f (clearEvents (beginEvent s)) ∧ ∀ o ∈ t.bus, o.addr < t.cfg.STORE_SIZE := onEvent_next

/-- If a request with a valid prefix answers a next state, it is the operation's after the common response write. -/
theorem onRequest_next {a : HostArgs} {s t : State} {f : State → State} :
    onRequest a s f = .next t ↔ t = f (respond a (beginEvent s)) ∧ ∀ o ∈ t.bus, o.addr < t.cfg.STORE_SIZE := onEvent_next

/-! ### What an operation can do to the store -/

/-- From `s` to `t` the store changes exactly by calls added to the bus; every call exists under a valid CFG; CFG, the queue of
presented events and the wait for the first RESET stay. -/
structure StoreStep (s t : State) : Prop where
  cfg : t.cfg = s.cfg
  pending : t.pending = s.pending
  awaitingReset : t.awaitingReset = s.awaitingReset
  calls : ∃ ops, t.bus = s.bus ++ ops ∧ t.store = s.store.replay ops ∧
    (s.cfg.valid = true → ∀ o ∈ ops, o.addr < s.cfg.STORE_SIZE)

/-- An operation that makes no store call. -/
theorem StoreStep.quiet {s t : State} (h1 : t.cfg = s.cfg) (h2 : t.pending = s.pending)
    (h3 : t.awaitingReset = s.awaitingReset) (h4 : t.bus = s.bus) (h5 : t.store = s.store) : StoreStep s t :=
  ⟨h1, h2, h3, [], by simp [h4], by simp [h5], by simp⟩

theorem StoreStep.refl (s : State) : StoreStep s s := .quiet rfl rfl rfl rfl rfl

theorem StoreStep.trans {s t u : State} (h : StoreStep s t) (k : StoreStep t u) : StoreStep s u := by
  obtain ⟨hc, hp, ha, ops, hb, hs, ho⟩ := h
  obtain ⟨kc, kp, ka, ops', kb, ks, ko⟩ := k
  refine ⟨kc.trans hc, kp.trans hp, ka.trans ha, ops ++ ops', ?_, ?_, ?_⟩
  · rw [kb, hb, List.append_assoc]
  · rw [ks, hs, replay_append]
  · intro hv o hm
    rcases List.mem_append.1 hm with hm | hm
    · exact ho hv o hm
    · rw [hc] at ko; exact ko hv o hm

/-- A write at an address that exists. -/
theorem StoreStep.write {s : State} {a : Nat} {v : Byte} (h : s.cfg.valid = true → a < s.cfg.STORE_SIZE) :
    StoreStep s (storeWrite a v s) :=
  ⟨rfl, rfl, rfl, [.set a v], rfl, rfl, by simpa [StoreOp.addr] using h⟩

/-- Reads at addresses that exist. -/
theorem StoreStep.reads {s : State} {as : List Nat} (h : s.cfg.valid = true → ∀ a ∈ as, a < s.cfg.STORE_SIZE) :
    StoreStep s (storeReads as s) :=
  ⟨rfl, rfl, rfl, as.map .get, rfl, (replay_gets _ _).symm, by simpa [StoreOp.addr] using h⟩

/-- Writes at addresses that exist. -/
theorem StoreStep.writes {ws : List (Nat × Byte)} {s : State}
    (h : s.cfg.valid = true → ∀ w ∈ ws, w.1 < s.cfg.STORE_SIZE) : StoreStep s (storeWrites ws s) := by
  induction ws generalizing s with
  | nil => exact .refl s
  | cons w ws ih =>
    refine (StoreStep.write (v := w.2) (fun hv => h hv w (by simp))).trans (ih (s := storeWrite w.1 w.2 s) ?_)
    intro hv x hx
    exact h hv x (List.mem_cons_of_mem _ hx)

/-- A register update before an operation. -/
theorem StoreStep.after {s s' t : State} (k : StoreStep s' t) (h1 : s'.cfg = s.cfg) (h2 : s'.pending = s.pending)
    (h3 : s'.awaitingReset = s.awaitingReset) (h4 : s'.bus = s.bus) (h5 : s'.store = s.store) : StoreStep s t :=
  (StoreStep.quiet h1 h2 h3 h4 h5).trans k

/-- A conditional operation. -/
theorem StoreStep.ite {p : Prop} [Decidable p] {s t u : State} (h : p → StoreStep s t) (k : ¬ p → StoreStep s u) :
    StoreStep s (if p then t else u) := by
  split
  · next hp => exact h hp
  · next hp => exact k hp

/-- An edge-triggered operation. -/
theorem StoreStep.edge {b : Bool} {f : State → State} {s : State} (h : StoreStep s (f s)) : StoreStep s (onEdge b f s) := by
  cases b
  · exact .refl s
  · exact h

/-! ### Writing a sequence of pairs -/

/-- A sequence of writes changes the store and the bus only. -/
theorem storeWrites_eq (ws : List (Nat × Byte)) (s : State) :
    storeWrites ws s =
      { s with store := s.store.replay (ws.map (fun w => .set w.1 w.2)), bus := s.bus ++ ws.map (fun w => .set w.1 w.2) } := by
  induction ws generalizing s with
  | nil => simp [storeWrites]
  | cons w ws ih =>
    have : storeWrites (w :: ws) s = storeWrites ws (storeWrite w.1 w.2 s) := rfl
    rw [this, ih]
    simp [storeWrite, Memory.replay, List.append_assoc]

@[simp] theorem storeWrites_cfg (ws : List (Nat × Byte)) (s : State) : (storeWrites ws s).cfg = s.cfg := by rw [storeWrites_eq]
@[simp] theorem storeWrites_parser (ws : List (Nat × Byte)) (s : State) : (storeWrites ws s).parser = s.parser := by
  rw [storeWrites_eq]
@[simp] theorem storeWrites_channels (ws : List (Nat × Byte)) (s : State) : (storeWrites ws s).channels = s.channels := by
  rw [storeWrites_eq]
@[simp] theorem storeWrites_buttons (ws : List (Nat × Byte)) (s : State) : (storeWrites ws s).buttons = s.buttons := by
  rw [storeWrites_eq]
@[simp] theorem storeWrites_mode (ws : List (Nat × Byte)) (s : State) : (storeWrites ws s).mode = s.mode := by rw [storeWrites_eq]
@[simp] theorem storeWrites_config (ws : List (Nat × Byte)) (s : State) : (storeWrites ws s).config = s.config := by
  rw [storeWrites_eq]
@[simp] theorem storeWrites_map (ws : List (Nat × Byte)) (s : State) : (storeWrites ws s).map = s.map := by rw [storeWrites_eq]
@[simp] theorem storeWrites_resp (ws : List (Nat × Byte)) (s : State) : (storeWrites ws s).resp = s.resp := by rw [storeWrites_eq]
@[simp] theorem storeWrites_lineRaw (ws : List (Nat × Byte)) (s : State) : (storeWrites ws s).lineRaw = s.lineRaw := by
  rw [storeWrites_eq]
@[simp] theorem storeWrites_report (ws : List (Nat × Byte)) (s : State) : (storeWrites ws s).report = s.report := by
  rw [storeWrites_eq]
@[simp] theorem storeWrites_store (ws : List (Nat × Byte)) (s : State) :
    (storeWrites ws s).store = s.store.replay (ws.map (fun w => .set w.1 w.2)) := by rw [storeWrites_eq]
@[simp] theorem storeWrites_bus (ws : List (Nat × Byte)) (s : State) :
    (storeWrites ws s).bus = s.bus ++ ws.map (fun w => .set w.1 w.2) := by rw [storeWrites_eq]
@[simp] theorem storeWrites_pending (ws : List (Nat × Byte)) (s : State) : (storeWrites ws s).pending = s.pending := by
  rw [storeWrites_eq]
@[simp] theorem storeWrites_awaitingReset (ws : List (Nat × Byte)) (s : State) :
    (storeWrites ws s).awaitingReset = s.awaitingReset := by rw [storeWrites_eq]

end Sys2Proof.Machine
end

