-- ==== Sys2Proof/Laws/NoteMap.lean ====
section
/-! SUPPORT. What each NoteMap operation can do: its effect as one record update, its store calls (`StoreStep`), and that it
keeps the cache and the configuration registers equal to the store (`Mirror`, R71). -/
namespace Sys2Proof.Machine

/-! ### Tables of bytes -/

/-- The loaded bank, entry by entry. -/
theorem loadBank_eq (c : Cfg) (m : Memory) (b : Nat) :
    loadBank c m b = (List.range c.C).map (fun ch => (List.range c.S).map (fun sl => m.read (slotAddr c b ch sl))) := by
  simp [loadBank, bankAddrs, Function.comp_def]

@[simp] theorem loadBank_length (c : Cfg) (m : Memory) (b : Nat) : (loadBank c m b).length = c.C := by simp [loadBank_eq]

theorem loadBank_row_length (c : Cfg) (m : Memory) (b : Nat) : ∀ row ∈ loadBank c m b, row.length = c.S := by
  intro row hr
  rw [loadBank_eq] at hr
  obtain ⟨ch, -, rfl⟩ := List.mem_map.1 hr
  simp

/-- A table of C rows of S bytes is its entries. -/
theorem table_eq {C S : Nat} {t : List (List Byte)} (d : Byte) (hl : t.length = C) (hr : ∀ row ∈ t, row.length = S) :
    t = (List.range C).map (fun ch => (List.range S).map (fun sl => (t.getD ch []).getD sl d)) := by
  apply List.ext_getElem (by simp [hl])
  intro i h1 h2
  have hrow := hr _ (List.getElem_mem h1)
  apply List.ext_getElem (by simp [hrow])
  intro j h3 h4
  simp [List.getD, h1, h3]

/-- The entries of the cache, as `mapGet` reads them. -/
theorem map_eq_of_get {s : State} {t : List (List Byte)} (hl : s.map.length = s.cfg.C)
    (hr : ∀ row ∈ s.map, row.length = s.cfg.S)
    (ht : t = (List.range s.cfg.C).map (fun ch => (List.range s.cfg.S).map (fun sl => mapGet s ch sl))) : s.map = t := by
  rw [ht]
  exact table_eq 0 hl hr

/-- A default table has C rows. -/
theorem defaultTable_length {c : Cfg} (h : c.valid = true) (b : Nat) : (defaultTable c b).length = c.C := by
  obtain ⟨h0, h1, -⟩ := valid_tables h
  simp only [Cfg.tableOk, Bool.and_eq_true, decide_eq_true_eq] at h0 h1
  simp only [defaultTable]
  split
  · exact h0.1
  · exact h1.1

/-- A default table has rows of S bytes. -/
theorem defaultTable_row_length {c : Cfg} (h : c.valid = true) (b : Nat) : ∀ row ∈ defaultTable c b, row.length = c.S := by
  obtain ⟨h0, h1, -⟩ := valid_tables h
  simp only [Cfg.tableOk, Bool.and_eq_true, decide_eq_true_eq, List.all_eq_true] at h0 h1
  intro row hr
  simp only [defaultTable] at hr
  split at hr
  · exact (h0.2 row hr).1
  · exact (h1.2 row hr).1

/-! ### Reading the store after writes -/

/-- Writing an entry of bank `b` changes that entry of the loaded bank alone. -/
theorem loadBank_write_slot {c : Cfg} {m : Memory} (hm : m.wf = true) {b ch sl : Nat} (_hc : ch < c.C) (hs : sl < c.S)
    (n : Byte) : loadBank c (m.write (slotAddr c b ch sl) n) b = cacheSet (loadBank c m b) ch sl n := by
  rw [loadBank_eq, loadBank_eq]
  apply List.ext_getElem (by simp [cacheSet])
  intro i h1 h2
  have hi : i < c.C := by simpa using h1
  simp only [cacheSet, List.getElem_map, List.getElem_range, List.getElem_modify]
  by_cases e : ch = i
  · subst e
    rw [if_pos rfl]
    apply List.ext_getElem (by simp)
    intro j h3 h4
    have hj : j < c.S := by simpa using h3
    simp only [List.getElem_map, List.getElem_range, List.getElem_set]
    by_cases e' : sl = j
    · subst e'; simp [read_write_self hm]
    · rw [if_neg e', read_write_of_ne]
      intro c'; exact e' (slotAddr_inj hj hs c').2.symm
  · rw [if_neg e]
    apply List.map_congr_left
    intro j hj
    rw [read_write_of_ne]
    intro c'; exact e (slotAddr_inj (by simpa using hj) hs c').1.symm

/-- Writing outside a bank's entries leaves the loaded bank. -/
theorem loadBank_write_of_not_slot {c : Cfg} {m : Memory} {a b : Nat} (v : Byte)
    (h : ∀ ch < c.C, ∀ sl < c.S, slotAddr c b ch sl ≠ a) : loadBank c (m.write a v) b = loadBank c m b := by
  rw [loadBank_eq, loadBank_eq]
  apply List.map_congr_left
  intro ch hc
  apply List.map_congr_left
  intro sl hs
  exact read_write_of_ne m v (h ch (by simpa using hc) sl (by simpa using hs))

/-- A configuration byte lies outside every bank (R62). -/
theorem loadBank_write_addr {c : Cfg} (h : c.valid = true) {m : Memory} {a : Nat} (ha : a ∈ c.addrs) (b : Nat) (v : Byte) :
    loadBank c (m.write a v) b = loadBank c m b :=
  loadBank_write_of_not_slot v (fun _ hc _ hs e => slotAddr_ne_addr h hc hs (e ▸ ha))

/-- After a sequence of writes an address holds the byte all its writes agree on. -/
theorem read_replay_sets {m : Memory} (hm : m.wf = true) {ws : List (Nat × Byte)} {a : Nat} {v : Byte}
    (hv : ∀ w ∈ ws, w.1 = a → w.2 = v) (he : ∃ w ∈ ws, w.1 = a) :
    (m.replay (ws.map (fun w => .set w.1 w.2))).read a = v := by
  induction ws generalizing m with
  | nil => simp at he
  | cons w ws ih =>
    simp only [List.map_cons, Memory.replay]
    by_cases c : ∃ x ∈ ws, x.1 = a
    · exact ih (wf_write hm _ _) (fun x hx => hv x (List.mem_cons_of_mem _ hx)) c
    · have hw : w.1 = a := by
        obtain ⟨x, hx, e⟩ := he
        rcases List.mem_cons.1 hx with rfl | hx
        · exact e
        · exact absurd ⟨x, hx, e⟩ c
      rw [read_replay_of_not_set, hw, read_write_self hm]
      · exact hv w (by simp) hw
      · intro u hu
        simp only [List.mem_map, StoreOp.set.injEq] at hu
        obtain ⟨x, hx, e, -⟩ := hu
        exact c ⟨x, hx, e⟩

/-- After a sequence of writes an address that none of them names holds its old byte. -/
theorem read_replay_sets_of_ne {m : Memory} {ws : List (Nat × Byte)} {a : Nat} (h : ∀ w ∈ ws, w.1 ≠ a) :
    (m.replay (ws.map (fun w => .set w.1 w.2))).read a = m.read a := by
  apply read_replay_of_not_set
  intro u hu
  simp only [List.mem_map, StoreOp.set.injEq] at hu
  obtain ⟨x, hx, e, -⟩ := hu
  exact h x hx e

/-- The default writes of bank `b`, entry by entry. -/
theorem mem_defaultWrites {c : Cfg} {b : Nat} {w : Nat × Byte} : w ∈ defaultWrites c b ↔ ∃ ch < c.C, ∃ sl < c.S,
    w = (slotAddr c b ch sl, ((defaultTable c b).getD ch []).getD sl c.UNASSIGNED) := by
  simp [defaultWrites, eq_comm]

/-- After the default writes of bank `b` every entry of the bank holds its default (R182). -/
theorem read_replay_defaults {c : Cfg} {m : Memory} (hm : m.wf = true) {b ch sl : Nat} (hc : ch < c.C) (hs : sl < c.S) :
    (m.replay ((defaultWrites c b).map (fun w => .set w.1 w.2))).read (slotAddr c b ch sl)
      = ((defaultTable c b).getD ch []).getD sl c.UNASSIGNED := by
  apply read_replay_sets hm
  · intro w hw e
    obtain ⟨ch', _, sl', hs', rfl⟩ := mem_defaultWrites.1 hw
    obtain ⟨rfl, rfl⟩ := slotAddr_inj hs' hs e
    rfl
  · exact ⟨_, mem_defaultWrites.2 ⟨ch, hc, sl, hs, rfl⟩, rfl⟩

/-- The bank so written loads as the default table. -/
theorem loadBank_replay_defaults {c : Cfg} (h : c.valid = true) {m : Memory} (hm : m.wf = true) (b : Nat) :
    loadBank c (m.replay ((defaultWrites c b).map (fun w => .set w.1 w.2))) b = defaultTable c b := by
  refine (loadBank_eq _ _ _).trans (Eq.trans ?_ (table_eq c.UNASSIGNED (defaultTable_length h b) (defaultTable_row_length h b)).symm)
  apply List.map_congr_left
  intro ch hc
  apply List.map_congr_left
  intro sl hs
  exact read_replay_defaults hm (by simpa using hc) (by simpa using hs)

/-- The default writes of a bank leave every configuration byte. -/
theorem read_replay_defaults_addr {c : Cfg} (h : c.valid = true) {m : Memory} {b a : Nat} (ha : a ∈ c.addrs) :
    (m.replay ((defaultWrites c b).map (fun w => .set w.1 w.2))).read a = m.read a := by
  apply read_replay_sets_of_ne
  intro w hw e
  obtain ⟨ch, hc, sl, hs, rfl⟩ := mem_defaultWrites.1 hw
  exact slotAddr_ne_addr h hc hs (e ▸ ha)

/-- The default writes of one bank leave the other. -/
theorem loadBank_replay_other {c : Cfg} (h : c.valid = true) {m : Memory} {b b' : Nat} (hb : (b = 0) ≠ (b' = 0)) :
    loadBank c (m.replay ((defaultWrites c b).map (fun w => .set w.1 w.2))) b' = loadBank c m b' := by
  rw [loadBank_eq, loadBank_eq]
  apply List.map_congr_left
  intro ch hc
  apply List.map_congr_left
  intro sl hs
  apply read_replay_sets_of_ne
  intro w hw e
  obtain ⟨ch', hc', sl', hs', rfl⟩ := mem_defaultWrites.1 hw
  exact slotAddr_banks_ne h hc' hs' (by simpa using hc) (by simpa using hs) hb e

/-! ### Each operation as one record update -/

/-- `set` in range. -/
theorem mapSet_of_lt {ch sl : Nat} {n : Byte} {s : State} (h : ch < s.cfg.C ∧ sl < s.cfg.S) :
    mapSet ch sl n s =
      { s with
        map := cacheSet s.map ch sl n
        store := s.store.write (slotAddr s.cfg (bankNum s.config.activeBank) ch sl) n
        bus := s.bus ++ [.set (slotAddr s.cfg (bankNum s.config.activeBank) ch sl) n] } := by
  rw [mapSet, if_pos h]; rfl

/-- `set` out of range does nothing (R68). -/
theorem mapSet_of_not_lt {ch sl : Nat} {n : Byte} {s : State} (h : ¬ (ch < s.cfg.C ∧ sl < s.cfg.S)) :
    mapSet ch sl n s = s := by
  rw [mapSet, if_neg h]

/-- `selectBank` of a bank that exists (R186). -/
theorem selectBank_of_le {b : Nat} {s : State} (h : b ≤ 1) :
    selectBank b s =
      { s with
        config := { s.config with activeBank := BitVec.ofNat 1 b }
        map := loadBank s.cfg s.store b
        store := s.store.write s.cfg.ADDR_BANK (BitVec.ofNat 8 b)
        bus := s.bus ++ (bankAddrs s.cfg b).flatten.map .get ++ [.set s.cfg.ADDR_BANK (BitVec.ofNat 8 b)] } := by
  rw [selectBank, if_neg (by omega), switchBank, if_neg (by omega)]
  rfl

/-- `selectBank` of any other bank does nothing (R68). -/
theorem selectBank_of_gt {b : Nat} {s : State} (h : 1 < b) : selectBank b s = s := by rw [selectBank, if_pos h]

/-- The active bank is 0 or 1. -/
theorem bankNum_le (b : BitVec 1) : bankNum b ≤ 1 := by have := b.isLt; simp only [bankNum]; omega

theorem bankNum_ofNat {b : Nat} (h : b ≤ 1) : bankNum (BitVec.ofNat 1 b) = b := by simp [bankNum]; omega

/-- Cycling the bank. -/
theorem cycleBank_eq (s : State) : cycleBank s = selectBank (1 - bankNum s.config.activeBank) s := rfl

/-! ### The store calls of each operation -/

theorem storeStep_mapSet (ch sl : Nat) (n : Byte) (s : State) : StoreStep s (mapSet ch sl n s) := by
  rw [mapSet]
  refine .ite (fun h => ?_) (fun _ => .refl s)
  exact StoreStep.after (s' := { s with map := cacheSet s.map ch sl n }) (.write (fun hv => slotAddr_lt hv h.1 h.2)) rfl rfl
    rfl rfl rfl

theorem storeStep_addMapping (ch : Nat) (n v : Data7) (ap : Bool) (s : State) : StoreStep s (addMapping ch n v ap s).2 := by
  simp only [addMapping]
  split
  · exact .refl s
  · split
    · exact .refl s
    · refine (storeStep_mapSet _ _ _ s).trans (.ite (fun _ => storeStep_mapSet _ _ _ _) (fun _ => .refl _))
    · exact storeStep_mapSet _ _ _ s

theorem storeStep_clearChannel (ch : Nat) (s : State) : StoreStep s (clearChannel ch s) :=
  .ite (fun _ => storeStep_mapSet _ _ _ s) (fun _ => .refl s)

theorem storeStep_restoreDefaults (b : Nat) (s : State) : StoreStep s (restoreDefaults b s) := by
  have h := StoreStep.writes (ws := defaultWrites s.cfg b) (s := s) (fun hv => defaultWrites_lt hv b)
  rw [restoreDefaults]
  refine .ite (fun _ => .refl s) (fun _ => .ite (fun _ => ?_) (fun _ => h))
  exact h.trans (.quiet rfl rfl rfl rfl rfl)

theorem storeStep_switchBank (b : Nat) (r : Bool) (s : State) : StoreStep s (switchBank b r s) := by
  rw [switchBank]
  refine .ite (fun _ => .refl s) (fun _ => .ite (fun _ => ?_) (fun _ => .quiet rfl rfl rfl rfl rfl))
  exact StoreStep.after
    (s' := { s with config := { s.config with activeBank := BitVec.ofNat 1 b }, map := loadBank s.cfg s.store b })
    (.reads (fun hv => bankAddrs_lt hv b)) rfl rfl rfl rfl rfl

theorem storeStep_selectBank (b : Nat) (s : State) : StoreStep s (selectBank b s) := by
  rw [selectBank]
  refine .ite (fun _ => .refl s) (fun _ => ?_)
  have h := storeStep_switchBank b true s
  refine h.trans (.write (fun hv => ?_))
  rw [h.cfg] at hv ⊢
  exact addr_bank_lt hv

theorem storeStep_cycleBank (s : State) : StoreStep s (cycleBank s) := storeStep_selectBank _ s

/-! ### Coherence with the store (R71) -/

/-- The registers that mirror the store are equal to it, in a state of the right shape under a valid CFG. -/
structure Mirror (s : State) : Prop where
  valid : s.cfg.valid = true
  rows : s.map.length = s.cfg.C
  cols : ∀ row ∈ s.map, row.length = s.cfg.S
  store : StoreOk s
  coherent : Coherent s

/-- A coherent state's cache has the shape CFG gives it. -/
theorem Mirror.of_coherent {s : State} (hv : s.cfg.valid = true) (hs : StoreOk s) (hc : Coherent s) : Mirror s := by
  refine ⟨hv, ?_, ?_, hs, hc⟩
  · rw [hc.1]; simp
  · rw [hc.1]; exact loadBank_row_length _ _ _

/-- An update of registers that do not mirror the store keeps the mirror. -/
theorem Mirror.of_eq {s t : State} (h : Mirror s) (h1 : t.cfg = s.cfg) (h2 : t.config = s.config) (h3 : t.map = s.map)
    (h4 : t.store = s.store) : Mirror t := by
  obtain ⟨a, b, c, d, e⟩ := h
  constructor
  · rw [h1]; exact a
  · rw [h1, h3]; exact b
  · rw [h1, h3]; exact c
  · simp only [StoreOk, h1, h4]; exact d
  · simp only [Coherent, h1, h2, h3, h4]; exact e

/-- A write keeps the store canonical and within the addresses that exist. -/
theorem StoreOk.write {s t : State} {a : Nat} {v : Byte} (h : StoreOk s) (ha : a < s.cfg.STORE_SIZE) (h1 : t.cfg = s.cfg)
    (h2 : t.store = s.store.write a v) : StoreOk t := by
  simp only [StoreOk, h1, h2]
  exact ⟨wf_write h.1 a v, bound_write v h.2 ha⟩

/-- Two configuration addresses are different (R62). -/
theorem addrs_ne {c : Cfg} (h : c.valid = true) :
    c.ADDR_HOLD ≠ c.ADDR_VELTHR ∧ c.ADDR_HOLD ≠ c.ADDR_BANK ∧ c.ADDR_HOLD ≠ c.ADDR_SWAP ∧ c.ADDR_HOLD ≠ c.ADDR_HHTHR ∧
    c.ADDR_VELTHR ≠ c.ADDR_BANK ∧ c.ADDR_VELTHR ≠ c.ADDR_SWAP ∧ c.ADDR_VELTHR ≠ c.ADDR_HHTHR ∧
    c.ADDR_BANK ≠ c.ADDR_SWAP ∧ c.ADDR_BANK ≠ c.ADDR_HHTHR ∧ c.ADDR_SWAP ≠ c.ADDR_HHTHR ∧
    c.ADDR_VERSION ≠ c.ADDR_HOLD ∧ c.ADDR_VERSION ≠ c.ADDR_VELTHR ∧ c.ADDR_VERSION ≠ c.ADDR_BANK ∧
    c.ADDR_VERSION ≠ c.ADDR_SWAP ∧ c.ADDR_VERSION ≠ c.ADDR_HHTHR := by
  have := (valid_layout h).1
  simp [Cfg.addrs] at this
  tauto

/-- The bytes at the configuration addresses after an entry is written. -/
theorem read_write_slot {c : Cfg} (h : c.valid = true) {m : Memory} {b ch sl a : Nat} (hc : ch < c.C) (hs : sl < c.S)
    (ha : a ∈ c.addrs) (n : Byte) : (m.write (slotAddr c b ch sl) n).read a = m.read a :=
  read_write_of_ne m n (fun e => slotAddr_ne_addr h hc hs (e ▸ ha))

theorem mirror_mapSet {s : State} (h : Mirror s) (ch sl : Nat) (n : Byte) : Mirror (mapSet ch sl n s) := by
  by_cases hb : ch < s.cfg.C ∧ sl < s.cfg.S
  · rw [mapSet_of_lt hb]
    obtain ⟨hm, h1, h2, h3, h4, h5⟩ := h.coherent
    refine Mirror.of_coherent h.valid (h.store.write (slotAddr_lt h.valid hb.1 hb.2) rfl rfl) ?_
    refine ⟨?_, ?_, ?_, ?_, ?_, ?_⟩
    · exact (congrArg (cacheSet · ch sl n) hm).trans (loadBank_write_slot h.store.1 hb.1 hb.2 n).symm
    · exact h1.trans (read_write_slot h.valid hb.1 hb.2 (by simp [Cfg.addrs]) n).symm
    · exact h2.trans (read_write_slot h.valid hb.1 hb.2 (by simp [Cfg.addrs]) n).symm
    · exact h3.trans (read_write_slot h.valid hb.1 hb.2 (by simp [Cfg.addrs]) n).symm
    · exact h4.trans (read_write_slot h.valid hb.1 hb.2 (by simp [Cfg.addrs]) n).symm
    · exact h5.trans (congrArg _ (read_write_slot h.valid hb.1 hb.2 (by simp [Cfg.addrs]) n).symm)
  · rw [mapSet_of_not_lt hb]; exact h

theorem mirror_addMapping {s : State} (h : Mirror s) (ch : Nat) (n v : Data7) (ap : Bool) :
    Mirror (addMapping ch n v ap s).2 := by
  simp only [addMapping]
  split
  · exact h
  · split
    · exact h
    · have := mirror_mapSet h
      split
      · exact mirror_mapSet (this _ _ _) _ _ _
      · exact this _ _ _
    · exact mirror_mapSet h _ _ _

theorem mirror_clearChannel {s : State} (h : Mirror s) (ch : Nat) : Mirror (clearChannel ch s) := by
  rw [clearChannel]
  split
  · exact mirror_mapSet h _ _ _
  · exact h

theorem mirror_selectBank {s : State} (h : Mirror s) (b : Nat) : Mirror (selectBank b s) := by
  by_cases hb : b ≤ 1
  · rw [selectBank_of_le hb]
    obtain ⟨hm, h1, h2, h3, h4, h5⟩ := h.coherent
    obtain ⟨a1, a2, a3, a4, a5, a6, a7, a8, a9, a10, -⟩ := addrs_ne h.valid
    refine Mirror.of_coherent h.valid (h.store.write (addr_bank_lt h.valid) rfl rfl) ?_
    refine ⟨?_, ?_, ?_, ?_, ?_, ?_⟩
    · simp only [bankNum_ofNat hb]
      exact (loadBank_write_addr h.valid (by simp [Cfg.addrs]) b _).symm
    · exact h1.trans (read_write_of_ne _ _ a2).symm
    · exact h2.trans (read_write_of_ne _ _ a5).symm
    · exact h3.trans (read_write_of_ne _ _ a8.symm).symm
    · exact h4.trans (read_write_of_ne _ _ a9.symm).symm
    · show BitVec.ofNat 1 b = _
      rw [read_write_self h.store.1]
      rcases (show b = 0 ∨ b = 1 by omega) with rfl | rfl <;> rfl
  · rw [selectBank_of_gt (by omega)]; exact h

theorem mirror_cycleBank {s : State} (h : Mirror s) : Mirror (cycleBank s) := mirror_selectBank h _

/-- Restoring the active bank's defaults fills the cache with them (R182). -/
theorem restoreDefaults_active {s : State} :
    restoreDefaults (bankNum s.config.activeBank) s =
      { s with
        map := defaultTable s.cfg (bankNum s.config.activeBank)
        store := s.store.replay ((defaultWrites s.cfg (bankNum s.config.activeBank)).map (fun w => .set w.1 w.2))
        bus := s.bus ++ (defaultWrites s.cfg (bankNum s.config.activeBank)).map (fun w => .set w.1 w.2) } := by
  have := bankNum_le s.config.activeBank
  rw [restoreDefaults, if_neg (by omega), if_pos rfl, storeWrites_eq]

theorem storeOk_storeWrites {s : State} (h : StoreOk s) {ws : List (Nat × Byte)} (hw : ∀ w ∈ ws, w.1 < s.cfg.STORE_SIZE) :
    StoreOk (storeWrites ws s) := by
  simp only [StoreOk, storeWrites_store, storeWrites_cfg]
  refine ⟨wf_replay h.1 _, bound_replay h.2 ?_⟩
  intro o ho
  obtain ⟨w, hw', rfl⟩ := List.mem_map.1 ho
  exact hw w hw'

theorem mirror_restoreActive {s : State} (h : Mirror s) : Mirror (restoreActive s) := by
  have hst := storeOk_storeWrites h.store (defaultWrites_lt h.valid (bankNum s.config.activeBank))
  rw [storeWrites_eq] at hst
  rw [restoreActive, restoreDefaults_active]
  obtain ⟨hm, h1, h2, h3, h4, h5⟩ := h.coherent
  refine Mirror.of_coherent h.valid hst ?_
  refine ⟨(loadBank_replay_defaults h.valid h.store.1 _).symm, ?_, ?_, ?_, ?_, ?_⟩
  · exact h1.trans (read_replay_defaults_addr h.valid (by simp [Cfg.addrs])).symm
  · exact h2.trans (read_replay_defaults_addr h.valid (by simp [Cfg.addrs])).symm
  · exact h3.trans (read_replay_defaults_addr h.valid (by simp [Cfg.addrs])).symm
  · exact h4.trans (read_replay_defaults_addr h.valid (by simp [Cfg.addrs])).symm
  · exact h5.trans (congrArg _ (read_replay_defaults_addr h.valid (by simp [Cfg.addrs])).symm)

/-- A configuration register and its byte, written together. -/
theorem mirror_writeHold {s : State} (h : Mirror s) (v : Byte) : Mirror (writeHold v s) := by
  obtain ⟨hm, h1, h2, h3, h4, h5⟩ := h.coherent
  obtain ⟨a1, a2, a3, a4, a5, a6, a7, a8, a9, a10, -⟩ := addrs_ne h.valid
  refine Mirror.of_coherent h.valid (h.store.write (addr_hold_lt h.valid) rfl rfl) ⟨?_, ?_, ?_, ?_, ?_, ?_⟩
  · exact hm.trans (loadBank_write_addr h.valid (by simp [Cfg.addrs]) _ _).symm
  · exact (read_write_self h.store.1 _ _).symm
  · exact h2.trans (read_write_of_ne _ _ a1.symm).symm
  · exact h3.trans (read_write_of_ne _ _ a3.symm).symm
  · exact h4.trans (read_write_of_ne _ _ a4.symm).symm
  · exact h5.trans (congrArg _ (read_write_of_ne _ _ a2.symm).symm)

theorem mirror_writeVelThreshold {s : State} (h : Mirror s) (v : Byte) : Mirror (writeVelThreshold v s) := by
  obtain ⟨hm, h1, h2, h3, h4, h5⟩ := h.coherent
  obtain ⟨a1, a2, a3, a4, a5, a6, a7, a8, a9, a10, -⟩ := addrs_ne h.valid
  refine Mirror.of_coherent h.valid (h.store.write (addr_velthr_lt h.valid) rfl rfl) ⟨?_, ?_, ?_, ?_, ?_, ?_⟩
  · exact hm.trans (loadBank_write_addr h.valid (by simp [Cfg.addrs]) _ _).symm
  · exact h1.trans (read_write_of_ne _ _ a1).symm
  · exact (read_write_self h.store.1 _ _).symm
  · exact h3.trans (read_write_of_ne _ _ a6.symm).symm
  · exact h4.trans (read_write_of_ne _ _ a7.symm).symm
  · exact h5.trans (congrArg _ (read_write_of_ne _ _ a5.symm).symm)

theorem mirror_writeSwapNote {s : State} (h : Mirror s) (v : Byte) : Mirror (writeSwapNote v s) := by
  obtain ⟨hm, h1, h2, h3, h4, h5⟩ := h.coherent
  obtain ⟨a1, a2, a3, a4, a5, a6, a7, a8, a9, a10, -⟩ := addrs_ne h.valid
  refine Mirror.of_coherent h.valid (h.store.write (addr_swap_lt h.valid) rfl rfl) ⟨?_, ?_, ?_, ?_, ?_, ?_⟩
  · exact hm.trans (loadBank_write_addr h.valid (by simp [Cfg.addrs]) _ _).symm
  · exact h1.trans (read_write_of_ne _ _ a3).symm
  · exact h2.trans (read_write_of_ne _ _ a6).symm
  · exact (read_write_self h.store.1 _ _).symm
  · exact h4.trans (read_write_of_ne _ _ a10.symm).symm
  · exact h5.trans (congrArg _ (read_write_of_ne _ _ a8).symm)

theorem mirror_writeHhThreshold {s : State} (h : Mirror s) (v : Byte) : Mirror (writeHhThreshold v s) := by
  obtain ⟨hm, h1, h2, h3, h4, h5⟩ := h.coherent
  obtain ⟨a1, a2, a3, a4, a5, a6, a7, a8, a9, a10, -⟩ := addrs_ne h.valid
  refine Mirror.of_coherent h.valid (h.store.write (addr_hhthr_lt h.valid) rfl rfl) ⟨?_, ?_, ?_, ?_, ?_, ?_⟩
  · exact hm.trans (loadBank_write_addr h.valid (by simp [Cfg.addrs]) _ _).symm
  · exact h1.trans (read_write_of_ne _ _ a4).symm
  · exact h2.trans (read_write_of_ne _ _ a7).symm
  · exact h3.trans (read_write_of_ne _ _ a10).symm
  · exact (read_write_self h.store.1 _ _).symm
  · exact h5.trans (congrArg _ (read_write_of_ne _ _ a9).symm)

end Sys2Proof.Machine
end

