-- ==== Sys2Proof/Laws/Frames.lean ====
section
/-! SUPPORT. The frames of the compound operations: the fields that none of their paths writes. -/
namespace Sys2Proof.Machine

/- Hundreds of one-line lemmas: elaborated one at a time they need one thread's memory. -/
set_option Elab.async false

variable (s : State)

/-! ### mapSet -/
@[simp] theorem mapSet_parser (ch sl : Nat) (n : Byte) : (mapSet ch sl n s).parser = s.parser := by
  rw [mapSet]; split <;> rfl
@[simp] theorem mapSet_channels (ch sl : Nat) (n : Byte) : (mapSet ch sl n s).channels = s.channels := by
  rw [mapSet]; split <;> rfl
@[simp] theorem mapSet_buttons (ch sl : Nat) (n : Byte) : (mapSet ch sl n s).buttons = s.buttons := by
  rw [mapSet]; split <;> rfl
@[simp] theorem mapSet_mode (ch sl : Nat) (n : Byte) : (mapSet ch sl n s).mode = s.mode := by
  rw [mapSet]; split <;> rfl
@[simp] theorem mapSet_resp (ch sl : Nat) (n : Byte) : (mapSet ch sl n s).resp = s.resp := by
  rw [mapSet]; split <;> rfl
@[simp] theorem mapSet_lineRaw (ch sl : Nat) (n : Byte) : (mapSet ch sl n s).lineRaw = s.lineRaw := by
  rw [mapSet]; split <;> rfl
@[simp] theorem mapSet_report (ch sl : Nat) (n : Byte) : (mapSet ch sl n s).report = s.report := by
  rw [mapSet]; split <;> rfl
@[simp] theorem mapSet_cfg (ch sl : Nat) (n : Byte) : (mapSet ch sl n s).cfg = s.cfg := by
  rw [mapSet]; split <;> rfl
@[simp] theorem mapSet_pending (ch sl : Nat) (n : Byte) : (mapSet ch sl n s).pending = s.pending := by
  rw [mapSet]; split <;> rfl
@[simp] theorem mapSet_awaitingReset (ch sl : Nat) (n : Byte) : (mapSet ch sl n s).awaitingReset = s.awaitingReset := by
  rw [mapSet]; split <;> rfl
@[simp] theorem mapSet_config (ch sl : Nat) (n : Byte) : (mapSet ch sl n s).config = s.config := by
  rw [mapSet]; split <;> rfl

/-! ### addMapping -/
@[simp] theorem addMapping_parser (ch : Nat) (n v : Data7) (ap : Bool) : ((addMapping ch n v ap s).2).parser = s.parser := by
  simp only [addMapping]; repeat' split
  all_goals simp
@[simp] theorem addMapping_channels (ch : Nat) (n v : Data7) (ap : Bool) : ((addMapping ch n v ap s).2).channels = s.channels := by
  simp only [addMapping]; repeat' split
  all_goals simp
@[simp] theorem addMapping_buttons (ch : Nat) (n v : Data7) (ap : Bool) : ((addMapping ch n v ap s).2).buttons = s.buttons := by
  simp only [addMapping]; repeat' split
  all_goals simp
@[simp] theorem addMapping_mode (ch : Nat) (n v : Data7) (ap : Bool) : ((addMapping ch n v ap s).2).mode = s.mode := by
  simp only [addMapping]; repeat' split
  all_goals simp
@[simp] theorem addMapping_resp (ch : Nat) (n v : Data7) (ap : Bool) : ((addMapping ch n v ap s).2).resp = s.resp := by
  simp only [addMapping]; repeat' split
  all_goals simp
@[simp] theorem addMapping_lineRaw (ch : Nat) (n v : Data7) (ap : Bool) : ((addMapping ch n v ap s).2).lineRaw = s.lineRaw := by
  simp only [addMapping]; repeat' split
  all_goals simp
@[simp] theorem addMapping_report (ch : Nat) (n v : Data7) (ap : Bool) : ((addMapping ch n v ap s).2).report = s.report := by
  simp only [addMapping]; repeat' split
  all_goals simp
@[simp] theorem addMapping_cfg (ch : Nat) (n v : Data7) (ap : Bool) : ((addMapping ch n v ap s).2).cfg = s.cfg := by
  simp only [addMapping]; repeat' split
  all_goals simp
@[simp] theorem addMapping_pending (ch : Nat) (n v : Data7) (ap : Bool) : ((addMapping ch n v ap s).2).pending = s.pending := by
  simp only [addMapping]; repeat' split
  all_goals simp
@[simp] theorem addMapping_awaitingReset (ch : Nat) (n v : Data7) (ap : Bool) : ((addMapping ch n v ap s).2).awaitingReset = s.awaitingReset := by
  simp only [addMapping]; repeat' split
  all_goals simp
@[simp] theorem addMapping_config (ch : Nat) (n v : Data7) (ap : Bool) : ((addMapping ch n v ap s).2).config = s.config := by
  simp only [addMapping]; repeat' split
  all_goals simp

/-! ### clearChannel -/
@[simp] theorem clearChannel_parser (ch : Nat) : (clearChannel ch s).parser = s.parser := by
  rw [clearChannel]; split <;> simp
@[simp] theorem clearChannel_channels (ch : Nat) : (clearChannel ch s).channels = s.channels := by
  rw [clearChannel]; split <;> simp
@[simp] theorem clearChannel_buttons (ch : Nat) : (clearChannel ch s).buttons = s.buttons := by
  rw [clearChannel]; split <;> simp
@[simp] theorem clearChannel_mode (ch : Nat) : (clearChannel ch s).mode = s.mode := by
  rw [clearChannel]; split <;> simp
@[simp] theorem clearChannel_resp (ch : Nat) : (clearChannel ch s).resp = s.resp := by
  rw [clearChannel]; split <;> simp
@[simp] theorem clearChannel_lineRaw (ch : Nat) : (clearChannel ch s).lineRaw = s.lineRaw := by
  rw [clearChannel]; split <;> simp
@[simp] theorem clearChannel_report (ch : Nat) : (clearChannel ch s).report = s.report := by
  rw [clearChannel]; split <;> simp
@[simp] theorem clearChannel_cfg (ch : Nat) : (clearChannel ch s).cfg = s.cfg := by
  rw [clearChannel]; split <;> simp
@[simp] theorem clearChannel_pending (ch : Nat) : (clearChannel ch s).pending = s.pending := by
  rw [clearChannel]; split <;> simp
@[simp] theorem clearChannel_awaitingReset (ch : Nat) : (clearChannel ch s).awaitingReset = s.awaitingReset := by
  rw [clearChannel]; split <;> simp
@[simp] theorem clearChannel_config (ch : Nat) : (clearChannel ch s).config = s.config := by
  rw [clearChannel]; split <;> simp

/-! ### restoreDefaults -/
@[simp] theorem restoreDefaults_parser (b : Nat) : (restoreDefaults b s).parser = s.parser := by
  rw [restoreDefaults]; repeat' split
  all_goals simp
@[simp] theorem restoreDefaults_channels (b : Nat) : (restoreDefaults b s).channels = s.channels := by
  rw [restoreDefaults]; repeat' split
  all_goals simp
@[simp] theorem restoreDefaults_buttons (b : Nat) : (restoreDefaults b s).buttons = s.buttons := by
  rw [restoreDefaults]; repeat' split
  all_goals simp
@[simp] theorem restoreDefaults_mode (b : Nat) : (restoreDefaults b s).mode = s.mode := by
  rw [restoreDefaults]; repeat' split
  all_goals simp
@[simp] theorem restoreDefaults_resp (b : Nat) : (restoreDefaults b s).resp = s.resp := by
  rw [restoreDefaults]; repeat' split
  all_goals simp
@[simp] theorem restoreDefaults_lineRaw (b : Nat) : (restoreDefaults b s).lineRaw = s.lineRaw := by
  rw [restoreDefaults]; repeat' split
  all_goals simp
@[simp] theorem restoreDefaults_report (b : Nat) : (restoreDefaults b s).report = s.report := by
  rw [restoreDefaults]; repeat' split
  all_goals simp
@[simp] theorem restoreDefaults_cfg (b : Nat) : (restoreDefaults b s).cfg = s.cfg := by
  rw [restoreDefaults]; repeat' split
  all_goals simp
@[simp] theorem restoreDefaults_pending (b : Nat) : (restoreDefaults b s).pending = s.pending := by
  rw [restoreDefaults]; repeat' split
  all_goals simp
@[simp] theorem restoreDefaults_awaitingReset (b : Nat) : (restoreDefaults b s).awaitingReset = s.awaitingReset := by
  rw [restoreDefaults]; repeat' split
  all_goals simp
@[simp] theorem restoreDefaults_config (b : Nat) : (restoreDefaults b s).config = s.config := by
  rw [restoreDefaults]; repeat' split
  all_goals simp

/-! ### switchBank -/
@[simp] theorem switchBank_parser (b : Nat) (r : Bool) : (switchBank b r s).parser = s.parser := by
  rw [switchBank]; repeat' split
  all_goals rfl
@[simp] theorem switchBank_channels (b : Nat) (r : Bool) : (switchBank b r s).channels = s.channels := by
  rw [switchBank]; repeat' split
  all_goals rfl
@[simp] theorem switchBank_buttons (b : Nat) (r : Bool) : (switchBank b r s).buttons = s.buttons := by
  rw [switchBank]; repeat' split
  all_goals rfl
@[simp] theorem switchBank_mode (b : Nat) (r : Bool) : (switchBank b r s).mode = s.mode := by
  rw [switchBank]; repeat' split
  all_goals rfl
@[simp] theorem switchBank_resp (b : Nat) (r : Bool) : (switchBank b r s).resp = s.resp := by
  rw [switchBank]; repeat' split
  all_goals rfl
@[simp] theorem switchBank_lineRaw (b : Nat) (r : Bool) : (switchBank b r s).lineRaw = s.lineRaw := by
  rw [switchBank]; repeat' split
  all_goals rfl
@[simp] theorem switchBank_report (b : Nat) (r : Bool) : (switchBank b r s).report = s.report := by
  rw [switchBank]; repeat' split
  all_goals rfl
@[simp] theorem switchBank_cfg (b : Nat) (r : Bool) : (switchBank b r s).cfg = s.cfg := by
  rw [switchBank]; repeat' split
  all_goals rfl
@[simp] theorem switchBank_pending (b : Nat) (r : Bool) : (switchBank b r s).pending = s.pending := by
  rw [switchBank]; repeat' split
  all_goals rfl
@[simp] theorem switchBank_awaitingReset (b : Nat) (r : Bool) : (switchBank b r s).awaitingReset = s.awaitingReset := by
  rw [switchBank]; repeat' split
  all_goals rfl
@[simp] theorem switchBank_holdDuration (b : Nat) (r : Bool) : (switchBank b r s).config.holdDuration = s.config.holdDuration := by
  rw [switchBank]; repeat' split
  all_goals rfl
@[simp] theorem switchBank_velThreshold (b : Nat) (r : Bool) : (switchBank b r s).config.velThreshold = s.config.velThreshold := by
  rw [switchBank]; repeat' split
  all_goals rfl
@[simp] theorem switchBank_swapNote (b : Nat) (r : Bool) : (switchBank b r s).config.swapNote = s.config.swapNote := by
  rw [switchBank]; repeat' split
  all_goals rfl
@[simp] theorem switchBank_hhThreshold (b : Nat) (r : Bool) : (switchBank b r s).config.hhThreshold = s.config.hhThreshold := by
  rw [switchBank]; repeat' split
  all_goals rfl

/-! ### selectBank -/
@[simp] theorem selectBank_parser (b : Nat) : (selectBank b s).parser = s.parser := by
  rw [selectBank]; split <;> simp
@[simp] theorem selectBank_channels (b : Nat) : (selectBank b s).channels = s.channels := by
  rw [selectBank]; split <;> simp
@[simp] theorem selectBank_buttons (b : Nat) : (selectBank b s).buttons = s.buttons := by
  rw [selectBank]; split <;> simp
@[simp] theorem selectBank_mode (b : Nat) : (selectBank b s).mode = s.mode := by
  rw [selectBank]; split <;> simp
@[simp] theorem selectBank_resp (b : Nat) : (selectBank b s).resp = s.resp := by
  rw [selectBank]; split <;> simp
@[simp] theorem selectBank_lineRaw (b : Nat) : (selectBank b s).lineRaw = s.lineRaw := by
  rw [selectBank]; split <;> simp
@[simp] theorem selectBank_report (b : Nat) : (selectBank b s).report = s.report := by
  rw [selectBank]; split <;> simp
@[simp] theorem selectBank_cfg (b : Nat) : (selectBank b s).cfg = s.cfg := by
  rw [selectBank]; split <;> simp
@[simp] theorem selectBank_pending (b : Nat) : (selectBank b s).pending = s.pending := by
  rw [selectBank]; split <;> simp
@[simp] theorem selectBank_awaitingReset (b : Nat) : (selectBank b s).awaitingReset = s.awaitingReset := by
  rw [selectBank]; split <;> simp
@[simp] theorem selectBank_holdDuration (b : Nat) : (selectBank b s).config.holdDuration = s.config.holdDuration := by
  rw [selectBank]; split <;> simp
@[simp] theorem selectBank_velThreshold (b : Nat) : (selectBank b s).config.velThreshold = s.config.velThreshold := by
  rw [selectBank]; split <;> simp
@[simp] theorem selectBank_swapNote (b : Nat) : (selectBank b s).config.swapNote = s.config.swapNote := by
  rw [selectBank]; split <;> simp
@[simp] theorem selectBank_hhThreshold (b : Nat) : (selectBank b s).config.hhThreshold = s.config.hhThreshold := by
  rw [selectBank]; split <;> simp

/-! ### cycleBank -/
@[simp] theorem cycleBank_parser : (cycleBank s).parser = s.parser := by
  rw [cycleBank_eq]; simp
@[simp] theorem cycleBank_channels : (cycleBank s).channels = s.channels := by
  rw [cycleBank_eq]; simp
@[simp] theorem cycleBank_buttons : (cycleBank s).buttons = s.buttons := by
  rw [cycleBank_eq]; simp
@[simp] theorem cycleBank_mode : (cycleBank s).mode = s.mode := by
  rw [cycleBank_eq]; simp
@[simp] theorem cycleBank_resp : (cycleBank s).resp = s.resp := by
  rw [cycleBank_eq]; simp
@[simp] theorem cycleBank_lineRaw : (cycleBank s).lineRaw = s.lineRaw := by
  rw [cycleBank_eq]; simp
@[simp] theorem cycleBank_report : (cycleBank s).report = s.report := by
  rw [cycleBank_eq]; simp
@[simp] theorem cycleBank_cfg : (cycleBank s).cfg = s.cfg := by
  rw [cycleBank_eq]; simp
@[simp] theorem cycleBank_pending : (cycleBank s).pending = s.pending := by
  rw [cycleBank_eq]; simp
@[simp] theorem cycleBank_awaitingReset : (cycleBank s).awaitingReset = s.awaitingReset := by
  rw [cycleBank_eq]; simp
@[simp] theorem cycleBank_holdDuration : (cycleBank s).config.holdDuration = s.config.holdDuration := by
  rw [cycleBank_eq]; simp
@[simp] theorem cycleBank_velThreshold : (cycleBank s).config.velThreshold = s.config.velThreshold := by
  rw [cycleBank_eq]; simp
@[simp] theorem cycleBank_swapNote : (cycleBank s).config.swapNote = s.config.swapNote := by
  rw [cycleBank_eq]; simp
@[simp] theorem cycleBank_hhThreshold : (cycleBank s).config.hhThreshold = s.config.hhThreshold := by
  rw [cycleBank_eq]; simp

/-! ### onEdge_selectBank -/
@[simp] theorem onEdge_selectBank_parser (b : Bool) (k : Nat) : (onEdge b (selectBank k) s).parser = s.parser := by
  cases b <;> simp [onEdge]
@[simp] theorem onEdge_selectBank_channels (b : Bool) (k : Nat) : (onEdge b (selectBank k) s).channels = s.channels := by
  cases b <;> simp [onEdge]
@[simp] theorem onEdge_selectBank_buttons (b : Bool) (k : Nat) : (onEdge b (selectBank k) s).buttons = s.buttons := by
  cases b <;> simp [onEdge]
@[simp] theorem onEdge_selectBank_mode (b : Bool) (k : Nat) : (onEdge b (selectBank k) s).mode = s.mode := by
  cases b <;> simp [onEdge]
@[simp] theorem onEdge_selectBank_resp (b : Bool) (k : Nat) : (onEdge b (selectBank k) s).resp = s.resp := by
  cases b <;> simp [onEdge]
@[simp] theorem onEdge_selectBank_lineRaw (b : Bool) (k : Nat) : (onEdge b (selectBank k) s).lineRaw = s.lineRaw := by
  cases b <;> simp [onEdge]
@[simp] theorem onEdge_selectBank_report (b : Bool) (k : Nat) : (onEdge b (selectBank k) s).report = s.report := by
  cases b <;> simp [onEdge]
@[simp] theorem onEdge_selectBank_cfg (b : Bool) (k : Nat) : (onEdge b (selectBank k) s).cfg = s.cfg := by
  cases b <;> simp [onEdge]
@[simp] theorem onEdge_selectBank_pending (b : Bool) (k : Nat) : (onEdge b (selectBank k) s).pending = s.pending := by
  cases b <;> simp [onEdge]
@[simp] theorem onEdge_selectBank_awaitingReset (b : Bool) (k : Nat) : (onEdge b (selectBank k) s).awaitingReset = s.awaitingReset := by
  cases b <;> simp [onEdge]
@[simp] theorem onEdge_selectBank_holdDuration (b : Bool) (k : Nat) : (onEdge b (selectBank k) s).config.holdDuration = s.config.holdDuration := by
  cases b <;> simp [onEdge]
@[simp] theorem onEdge_selectBank_velThreshold (b : Bool) (k : Nat) : (onEdge b (selectBank k) s).config.velThreshold = s.config.velThreshold := by
  cases b <;> simp [onEdge]
@[simp] theorem onEdge_selectBank_swapNote (b : Bool) (k : Nat) : (onEdge b (selectBank k) s).config.swapNote = s.config.swapNote := by
  cases b <;> simp [onEdge]
@[simp] theorem onEdge_selectBank_hhThreshold (b : Bool) (k : Nat) : (onEdge b (selectBank k) s).config.hhThreshold = s.config.hhThreshold := by
  cases b <;> simp [onEdge]

/-! ### onEdge_cycleBank -/
@[simp] theorem onEdge_cycleBank_parser (b : Bool) : (onEdge b cycleBank s).parser = s.parser := by
  cases b <;> simp [onEdge]
@[simp] theorem onEdge_cycleBank_channels (b : Bool) : (onEdge b cycleBank s).channels = s.channels := by
  cases b <;> simp [onEdge]
@[simp] theorem onEdge_cycleBank_buttons (b : Bool) : (onEdge b cycleBank s).buttons = s.buttons := by
  cases b <;> simp [onEdge]
@[simp] theorem onEdge_cycleBank_mode (b : Bool) : (onEdge b cycleBank s).mode = s.mode := by
  cases b <;> simp [onEdge]
@[simp] theorem onEdge_cycleBank_resp (b : Bool) : (onEdge b cycleBank s).resp = s.resp := by
  cases b <;> simp [onEdge]
@[simp] theorem onEdge_cycleBank_lineRaw (b : Bool) : (onEdge b cycleBank s).lineRaw = s.lineRaw := by
  cases b <;> simp [onEdge]
@[simp] theorem onEdge_cycleBank_report (b : Bool) : (onEdge b cycleBank s).report = s.report := by
  cases b <;> simp [onEdge]
@[simp] theorem onEdge_cycleBank_cfg (b : Bool) : (onEdge b cycleBank s).cfg = s.cfg := by
  cases b <;> simp [onEdge]
@[simp] theorem onEdge_cycleBank_pending (b : Bool) : (onEdge b cycleBank s).pending = s.pending := by
  cases b <;> simp [onEdge]
@[simp] theorem onEdge_cycleBank_awaitingReset (b : Bool) : (onEdge b cycleBank s).awaitingReset = s.awaitingReset := by
  cases b <;> simp [onEdge]
@[simp] theorem onEdge_cycleBank_holdDuration (b : Bool) : (onEdge b cycleBank s).config.holdDuration = s.config.holdDuration := by
  cases b <;> simp [onEdge]
@[simp] theorem onEdge_cycleBank_velThreshold (b : Bool) : (onEdge b cycleBank s).config.velThreshold = s.config.velThreshold := by
  cases b <;> simp [onEdge]
@[simp] theorem onEdge_cycleBank_swapNote (b : Bool) : (onEdge b cycleBank s).config.swapNote = s.config.swapNote := by
  cases b <;> simp [onEdge]
@[simp] theorem onEdge_cycleBank_hhThreshold (b : Bool) : (onEdge b cycleBank s).config.hhThreshold = s.config.hhThreshold := by
  cases b <;> simp [onEdge]

/-! ### onEdge_restoreActive -/
@[simp] theorem onEdge_restoreActive_parser (b : Bool) : (onEdge b restoreActive s).parser = s.parser := by
  cases b <;> simp [onEdge, restoreActive]
@[simp] theorem onEdge_restoreActive_channels (b : Bool) : (onEdge b restoreActive s).channels = s.channels := by
  cases b <;> simp [onEdge, restoreActive]
@[simp] theorem onEdge_restoreActive_buttons (b : Bool) : (onEdge b restoreActive s).buttons = s.buttons := by
  cases b <;> simp [onEdge, restoreActive]
@[simp] theorem onEdge_restoreActive_mode (b : Bool) : (onEdge b restoreActive s).mode = s.mode := by
  cases b <;> simp [onEdge, restoreActive]
@[simp] theorem onEdge_restoreActive_resp (b : Bool) : (onEdge b restoreActive s).resp = s.resp := by
  cases b <;> simp [onEdge, restoreActive]
@[simp] theorem onEdge_restoreActive_lineRaw (b : Bool) : (onEdge b restoreActive s).lineRaw = s.lineRaw := by
  cases b <;> simp [onEdge, restoreActive]
@[simp] theorem onEdge_restoreActive_report (b : Bool) : (onEdge b restoreActive s).report = s.report := by
  cases b <;> simp [onEdge, restoreActive]
@[simp] theorem onEdge_restoreActive_cfg (b : Bool) : (onEdge b restoreActive s).cfg = s.cfg := by
  cases b <;> simp [onEdge, restoreActive]
@[simp] theorem onEdge_restoreActive_pending (b : Bool) : (onEdge b restoreActive s).pending = s.pending := by
  cases b <;> simp [onEdge, restoreActive]
@[simp] theorem onEdge_restoreActive_awaitingReset (b : Bool) : (onEdge b restoreActive s).awaitingReset = s.awaitingReset := by
  cases b <;> simp [onEdge, restoreActive]
@[simp] theorem onEdge_restoreActive_config (b : Bool) : (onEdge b restoreActive s).config = s.config := by
  cases b <;> simp [onEdge, restoreActive]

/-! ### onEdge_clearSelected -/
@[simp] theorem onEdge_clearSelected_parser (b : Bool) : (onEdge b clearSelected s).parser = s.parser := by
  cases b <;> simp [onEdge, clearSelected]
@[simp] theorem onEdge_clearSelected_channels (b : Bool) : (onEdge b clearSelected s).channels = s.channels := by
  cases b <;> simp [onEdge, clearSelected]
@[simp] theorem onEdge_clearSelected_buttons (b : Bool) : (onEdge b clearSelected s).buttons = s.buttons := by
  cases b <;> simp [onEdge, clearSelected]
@[simp] theorem onEdge_clearSelected_mode (b : Bool) : (onEdge b clearSelected s).mode = s.mode := by
  cases b <;> simp [onEdge, clearSelected]
@[simp] theorem onEdge_clearSelected_resp (b : Bool) : (onEdge b clearSelected s).resp = s.resp := by
  cases b <;> simp [onEdge, clearSelected]
@[simp] theorem onEdge_clearSelected_lineRaw (b : Bool) : (onEdge b clearSelected s).lineRaw = s.lineRaw := by
  cases b <;> simp [onEdge, clearSelected]
@[simp] theorem onEdge_clearSelected_report (b : Bool) : (onEdge b clearSelected s).report = s.report := by
  cases b <;> simp [onEdge, clearSelected]
@[simp] theorem onEdge_clearSelected_cfg (b : Bool) : (onEdge b clearSelected s).cfg = s.cfg := by
  cases b <;> simp [onEdge, clearSelected]
@[simp] theorem onEdge_clearSelected_pending (b : Bool) : (onEdge b clearSelected s).pending = s.pending := by
  cases b <;> simp [onEdge, clearSelected]
@[simp] theorem onEdge_clearSelected_awaitingReset (b : Bool) : (onEdge b clearSelected s).awaitingReset = s.awaitingReset := by
  cases b <;> simp [onEdge, clearSelected]
@[simp] theorem onEdge_clearSelected_config (b : Bool) : (onEdge b clearSelected s).config = s.config := by
  cases b <;> simp [onEdge, clearSelected]

/-! ### onEdge_progChUp -/
@[simp] theorem onEdge_progChUp_parser (b : Bool) : (onEdge b progChUp s).parser = s.parser := by
  cases b <;> rfl
@[simp] theorem onEdge_progChUp_channels (b : Bool) : (onEdge b progChUp s).channels = s.channels := by
  cases b <;> rfl
@[simp] theorem onEdge_progChUp_buttons (b : Bool) : (onEdge b progChUp s).buttons = s.buttons := by
  cases b <;> rfl
@[simp] theorem onEdge_progChUp_resp (b : Bool) : (onEdge b progChUp s).resp = s.resp := by
  cases b <;> rfl
@[simp] theorem onEdge_progChUp_lineRaw (b : Bool) : (onEdge b progChUp s).lineRaw = s.lineRaw := by
  cases b <;> rfl
@[simp] theorem onEdge_progChUp_report (b : Bool) : (onEdge b progChUp s).report = s.report := by
  cases b <;> rfl
@[simp] theorem onEdge_progChUp_cfg (b : Bool) : (onEdge b progChUp s).cfg = s.cfg := by
  cases b <;> rfl
@[simp] theorem onEdge_progChUp_pending (b : Bool) : (onEdge b progChUp s).pending = s.pending := by
  cases b <;> rfl
@[simp] theorem onEdge_progChUp_awaitingReset (b : Bool) : (onEdge b progChUp s).awaitingReset = s.awaitingReset := by
  cases b <;> rfl
@[simp] theorem onEdge_progChUp_config (b : Bool) : (onEdge b progChUp s).config = s.config := by
  cases b <;> rfl
@[simp] theorem onEdge_progChUp_map (b : Bool) : (onEdge b progChUp s).map = s.map := by
  cases b <;> rfl
@[simp] theorem onEdge_progChUp_store (b : Bool) : (onEdge b progChUp s).store = s.store := by
  cases b <;> rfl
@[simp] theorem onEdge_progChUp_bus (b : Bool) : (onEdge b progChUp s).bus = s.bus := by
  cases b <;> rfl

/-! ### onEdge_progChDown -/
@[simp] theorem onEdge_progChDown_parser (b : Bool) : (onEdge b progChDown s).parser = s.parser := by
  cases b <;> rfl
@[simp] theorem onEdge_progChDown_channels (b : Bool) : (onEdge b progChDown s).channels = s.channels := by
  cases b <;> rfl
@[simp] theorem onEdge_progChDown_buttons (b : Bool) : (onEdge b progChDown s).buttons = s.buttons := by
  cases b <;> rfl
@[simp] theorem onEdge_progChDown_resp (b : Bool) : (onEdge b progChDown s).resp = s.resp := by
  cases b <;> rfl
@[simp] theorem onEdge_progChDown_lineRaw (b : Bool) : (onEdge b progChDown s).lineRaw = s.lineRaw := by
  cases b <;> rfl
@[simp] theorem onEdge_progChDown_report (b : Bool) : (onEdge b progChDown s).report = s.report := by
  cases b <;> rfl
@[simp] theorem onEdge_progChDown_cfg (b : Bool) : (onEdge b progChDown s).cfg = s.cfg := by
  cases b <;> rfl
@[simp] theorem onEdge_progChDown_pending (b : Bool) : (onEdge b progChDown s).pending = s.pending := by
  cases b <;> rfl
@[simp] theorem onEdge_progChDown_awaitingReset (b : Bool) : (onEdge b progChDown s).awaitingReset = s.awaitingReset := by
  cases b <;> rfl
@[simp] theorem onEdge_progChDown_config (b : Bool) : (onEdge b progChDown s).config = s.config := by
  cases b <;> rfl
@[simp] theorem onEdge_progChDown_map (b : Bool) : (onEdge b progChDown s).map = s.map := by
  cases b <;> rfl
@[simp] theorem onEdge_progChDown_store (b : Bool) : (onEdge b progChDown s).store = s.store := by
  cases b <;> rfl
@[simp] theorem onEdge_progChDown_bus (b : Bool) : (onEdge b progChDown s).bus = s.bus := by
  cases b <;> rfl

/-! ### onEdge_moveVelThreshold -/
@[simp] theorem onEdge_moveVelThreshold_parser (b : Bool) (d : Int) : (onEdge b (moveVelThreshold d) s).parser = s.parser := by
  cases b <;> rfl
@[simp] theorem onEdge_moveVelThreshold_channels (b : Bool) (d : Int) : (onEdge b (moveVelThreshold d) s).channels = s.channels := by
  cases b <;> rfl
@[simp] theorem onEdge_moveVelThreshold_buttons (b : Bool) (d : Int) : (onEdge b (moveVelThreshold d) s).buttons = s.buttons := by
  cases b <;> rfl
@[simp] theorem onEdge_moveVelThreshold_mode (b : Bool) (d : Int) : (onEdge b (moveVelThreshold d) s).mode = s.mode := by
  cases b <;> rfl
@[simp] theorem onEdge_moveVelThreshold_resp (b : Bool) (d : Int) : (onEdge b (moveVelThreshold d) s).resp = s.resp := by
  cases b <;> rfl
@[simp] theorem onEdge_moveVelThreshold_lineRaw (b : Bool) (d : Int) : (onEdge b (moveVelThreshold d) s).lineRaw = s.lineRaw := by
  cases b <;> rfl
@[simp] theorem onEdge_moveVelThreshold_report (b : Bool) (d : Int) : (onEdge b (moveVelThreshold d) s).report = s.report := by
  cases b <;> rfl
@[simp] theorem onEdge_moveVelThreshold_cfg (b : Bool) (d : Int) : (onEdge b (moveVelThreshold d) s).cfg = s.cfg := by
  cases b <;> rfl
@[simp] theorem onEdge_moveVelThreshold_pending (b : Bool) (d : Int) : (onEdge b (moveVelThreshold d) s).pending = s.pending := by
  cases b <;> rfl
@[simp] theorem onEdge_moveVelThreshold_awaitingReset (b : Bool) (d : Int) : (onEdge b (moveVelThreshold d) s).awaitingReset = s.awaitingReset := by
  cases b <;> rfl
@[simp] theorem onEdge_moveVelThreshold_map (b : Bool) (d : Int) : (onEdge b (moveVelThreshold d) s).map = s.map := by
  cases b <;> rfl
@[simp] theorem onEdge_moveVelThreshold_holdDuration (b : Bool) (d : Int) : (onEdge b (moveVelThreshold d) s).config.holdDuration = s.config.holdDuration := by
  cases b <;> rfl
@[simp] theorem onEdge_moveVelThreshold_swapNote (b : Bool) (d : Int) : (onEdge b (moveVelThreshold d) s).config.swapNote = s.config.swapNote := by
  cases b <;> rfl
@[simp] theorem onEdge_moveVelThreshold_hhThreshold (b : Bool) (d : Int) : (onEdge b (moveVelThreshold d) s).config.hhThreshold = s.config.hhThreshold := by
  cases b <;> rfl
@[simp] theorem onEdge_moveVelThreshold_activeBank (b : Bool) (d : Int) : (onEdge b (moveVelThreshold d) s).config.activeBank = s.config.activeBank := by
  cases b <;> rfl

/-! ### onEdge_writeVelThreshold -/
@[simp] theorem onEdge_writeVelThreshold_parser (b : Bool) (v : Byte) : (onEdge b (writeVelThreshold v) s).parser = s.parser := by
  cases b <;> rfl
@[simp] theorem onEdge_writeVelThreshold_channels (b : Bool) (v : Byte) : (onEdge b (writeVelThreshold v) s).channels = s.channels := by
  cases b <;> rfl
@[simp] theorem onEdge_writeVelThreshold_buttons (b : Bool) (v : Byte) : (onEdge b (writeVelThreshold v) s).buttons = s.buttons := by
  cases b <;> rfl
@[simp] theorem onEdge_writeVelThreshold_mode (b : Bool) (v : Byte) : (onEdge b (writeVelThreshold v) s).mode = s.mode := by
  cases b <;> rfl
@[simp] theorem onEdge_writeVelThreshold_resp (b : Bool) (v : Byte) : (onEdge b (writeVelThreshold v) s).resp = s.resp := by
  cases b <;> rfl
@[simp] theorem onEdge_writeVelThreshold_lineRaw (b : Bool) (v : Byte) : (onEdge b (writeVelThreshold v) s).lineRaw = s.lineRaw := by
  cases b <;> rfl
@[simp] theorem onEdge_writeVelThreshold_report (b : Bool) (v : Byte) : (onEdge b (writeVelThreshold v) s).report = s.report := by
  cases b <;> rfl
@[simp] theorem onEdge_writeVelThreshold_cfg (b : Bool) (v : Byte) : (onEdge b (writeVelThreshold v) s).cfg = s.cfg := by
  cases b <;> rfl
@[simp] theorem onEdge_writeVelThreshold_pending (b : Bool) (v : Byte) : (onEdge b (writeVelThreshold v) s).pending = s.pending := by
  cases b <;> rfl
@[simp] theorem onEdge_writeVelThreshold_awaitingReset (b : Bool) (v : Byte) : (onEdge b (writeVelThreshold v) s).awaitingReset = s.awaitingReset := by
  cases b <;> rfl
@[simp] theorem onEdge_writeVelThreshold_map (b : Bool) (v : Byte) : (onEdge b (writeVelThreshold v) s).map = s.map := by
  cases b <;> rfl
@[simp] theorem onEdge_writeVelThreshold_holdDuration (b : Bool) (v : Byte) : (onEdge b (writeVelThreshold v) s).config.holdDuration = s.config.holdDuration := by
  cases b <;> rfl
@[simp] theorem onEdge_writeVelThreshold_swapNote (b : Bool) (v : Byte) : (onEdge b (writeVelThreshold v) s).config.swapNote = s.config.swapNote := by
  cases b <;> rfl
@[simp] theorem onEdge_writeVelThreshold_hhThreshold (b : Bool) (v : Byte) : (onEdge b (writeVelThreshold v) s).config.hhThreshold = s.config.hhThreshold := by
  cases b <;> rfl
@[simp] theorem onEdge_writeVelThreshold_activeBank (b : Bool) (v : Byte) : (onEdge b (writeVelThreshold v) s).config.activeBank = s.config.activeBank := by
  cases b <;> rfl

/-! ### onEdge_moveHold -/
@[simp] theorem onEdge_moveHold_parser (b : Bool) (d : Int) : (onEdge b (moveHold d) s).parser = s.parser := by
  cases b <;> rfl
@[simp] theorem onEdge_moveHold_channels (b : Bool) (d : Int) : (onEdge b (moveHold d) s).channels = s.channels := by
  cases b <;> rfl
@[simp] theorem onEdge_moveHold_buttons (b : Bool) (d : Int) : (onEdge b (moveHold d) s).buttons = s.buttons := by
  cases b <;> rfl
@[simp] theorem onEdge_moveHold_mode (b : Bool) (d : Int) : (onEdge b (moveHold d) s).mode = s.mode := by
  cases b <;> rfl
@[simp] theorem onEdge_moveHold_resp (b : Bool) (d : Int) : (onEdge b (moveHold d) s).resp = s.resp := by
  cases b <;> rfl
@[simp] theorem onEdge_moveHold_lineRaw (b : Bool) (d : Int) : (onEdge b (moveHold d) s).lineRaw = s.lineRaw := by
  cases b <;> rfl
@[simp] theorem onEdge_moveHold_report (b : Bool) (d : Int) : (onEdge b (moveHold d) s).report = s.report := by
  cases b <;> rfl
@[simp] theorem onEdge_moveHold_cfg (b : Bool) (d : Int) : (onEdge b (moveHold d) s).cfg = s.cfg := by
  cases b <;> rfl
@[simp] theorem onEdge_moveHold_pending (b : Bool) (d : Int) : (onEdge b (moveHold d) s).pending = s.pending := by
  cases b <;> rfl
@[simp] theorem onEdge_moveHold_awaitingReset (b : Bool) (d : Int) : (onEdge b (moveHold d) s).awaitingReset = s.awaitingReset := by
  cases b <;> rfl
@[simp] theorem onEdge_moveHold_map (b : Bool) (d : Int) : (onEdge b (moveHold d) s).map = s.map := by
  cases b <;> rfl
@[simp] theorem onEdge_moveHold_velThreshold (b : Bool) (d : Int) : (onEdge b (moveHold d) s).config.velThreshold = s.config.velThreshold := by
  cases b <;> rfl
@[simp] theorem onEdge_moveHold_swapNote (b : Bool) (d : Int) : (onEdge b (moveHold d) s).config.swapNote = s.config.swapNote := by
  cases b <;> rfl
@[simp] theorem onEdge_moveHold_hhThreshold (b : Bool) (d : Int) : (onEdge b (moveHold d) s).config.hhThreshold = s.config.hhThreshold := by
  cases b <;> rfl
@[simp] theorem onEdge_moveHold_activeBank (b : Bool) (d : Int) : (onEdge b (moveHold d) s).config.activeBank = s.config.activeBank := by
  cases b <;> rfl

/-! ### onEdge_writeHold -/
@[simp] theorem onEdge_writeHold_parser (b : Bool) (v : Byte) : (onEdge b (writeHold v) s).parser = s.parser := by
  cases b <;> rfl
@[simp] theorem onEdge_writeHold_channels (b : Bool) (v : Byte) : (onEdge b (writeHold v) s).channels = s.channels := by
  cases b <;> rfl
@[simp] theorem onEdge_writeHold_buttons (b : Bool) (v : Byte) : (onEdge b (writeHold v) s).buttons = s.buttons := by
  cases b <;> rfl
@[simp] theorem onEdge_writeHold_mode (b : Bool) (v : Byte) : (onEdge b (writeHold v) s).mode = s.mode := by
  cases b <;> rfl
@[simp] theorem onEdge_writeHold_resp (b : Bool) (v : Byte) : (onEdge b (writeHold v) s).resp = s.resp := by
  cases b <;> rfl
@[simp] theorem onEdge_writeHold_lineRaw (b : Bool) (v : Byte) : (onEdge b (writeHold v) s).lineRaw = s.lineRaw := by
  cases b <;> rfl
@[simp] theorem onEdge_writeHold_report (b : Bool) (v : Byte) : (onEdge b (writeHold v) s).report = s.report := by
  cases b <;> rfl
@[simp] theorem onEdge_writeHold_cfg (b : Bool) (v : Byte) : (onEdge b (writeHold v) s).cfg = s.cfg := by
  cases b <;> rfl
@[simp] theorem onEdge_writeHold_pending (b : Bool) (v : Byte) : (onEdge b (writeHold v) s).pending = s.pending := by
  cases b <;> rfl
@[simp] theorem onEdge_writeHold_awaitingReset (b : Bool) (v : Byte) : (onEdge b (writeHold v) s).awaitingReset = s.awaitingReset := by
  cases b <;> rfl
@[simp] theorem onEdge_writeHold_map (b : Bool) (v : Byte) : (onEdge b (writeHold v) s).map = s.map := by
  cases b <;> rfl
@[simp] theorem onEdge_writeHold_velThreshold (b : Bool) (v : Byte) : (onEdge b (writeHold v) s).config.velThreshold = s.config.velThreshold := by
  cases b <;> rfl
@[simp] theorem onEdge_writeHold_swapNote (b : Bool) (v : Byte) : (onEdge b (writeHold v) s).config.swapNote = s.config.swapNote := by
  cases b <;> rfl
@[simp] theorem onEdge_writeHold_hhThreshold (b : Bool) (v : Byte) : (onEdge b (writeHold v) s).config.hhThreshold = s.config.hhThreshold := by
  cases b <;> rfl
@[simp] theorem onEdge_writeHold_activeBank (b : Bool) (v : Byte) : (onEdge b (writeHold v) s).config.activeBank = s.config.activeBank := by
  cases b <;> rfl

/-! ### playActions -/
@[simp] theorem playActions_parser (rose : Nat → BtnClass) : (playActions rose s).parser = s.parser := by
  rw [playActions]; split <;> simp
@[simp] theorem playActions_channels (rose : Nat → BtnClass) : (playActions rose s).channels = s.channels := by
  rw [playActions]; split <;> simp
@[simp] theorem playActions_buttons (rose : Nat → BtnClass) : (playActions rose s).buttons = s.buttons := by
  rw [playActions]; split <;> simp
@[simp] theorem playActions_mode (rose : Nat → BtnClass) : (playActions rose s).mode = s.mode := by
  rw [playActions]; split <;> simp
@[simp] theorem playActions_resp (rose : Nat → BtnClass) : (playActions rose s).resp = s.resp := by
  rw [playActions]; split <;> simp
@[simp] theorem playActions_lineRaw (rose : Nat → BtnClass) : (playActions rose s).lineRaw = s.lineRaw := by
  rw [playActions]; split <;> simp
@[simp] theorem playActions_report (rose : Nat → BtnClass) : (playActions rose s).report = s.report := by
  rw [playActions]; split <;> simp
@[simp] theorem playActions_cfg (rose : Nat → BtnClass) : (playActions rose s).cfg = s.cfg := by
  rw [playActions]; split <;> simp
@[simp] theorem playActions_pending (rose : Nat → BtnClass) : (playActions rose s).pending = s.pending := by
  rw [playActions]; split <;> simp
@[simp] theorem playActions_awaitingReset (rose : Nat → BtnClass) : (playActions rose s).awaitingReset = s.awaitingReset := by
  rw [playActions]; split <;> simp
@[simp] theorem playActions_holdDuration (rose : Nat → BtnClass) : (playActions rose s).config.holdDuration = s.config.holdDuration := by
  rw [playActions]; split <;> simp
@[simp] theorem playActions_velThreshold (rose : Nat → BtnClass) : (playActions rose s).config.velThreshold = s.config.velThreshold := by
  rw [playActions]; split <;> simp
@[simp] theorem playActions_swapNote (rose : Nat → BtnClass) : (playActions rose s).config.swapNote = s.config.swapNote := by
  rw [playActions]; split <;> simp
@[simp] theorem playActions_hhThreshold (rose : Nat → BtnClass) : (playActions rose s).config.hhThreshold = s.config.hhThreshold := by
  rw [playActions]; split <;> simp

/-! ### mapActions -/
@[simp] theorem mapActions_parser (rose : Nat → BtnClass) : (mapActions rose s).parser = s.parser := by
  simp [mapActions]
@[simp] theorem mapActions_channels (rose : Nat → BtnClass) : (mapActions rose s).channels = s.channels := by
  simp [mapActions]
@[simp] theorem mapActions_buttons (rose : Nat → BtnClass) : (mapActions rose s).buttons = s.buttons := by
  simp [mapActions]
@[simp] theorem mapActions_resp (rose : Nat → BtnClass) : (mapActions rose s).resp = s.resp := by
  simp [mapActions]
@[simp] theorem mapActions_lineRaw (rose : Nat → BtnClass) : (mapActions rose s).lineRaw = s.lineRaw := by
  simp [mapActions]
@[simp] theorem mapActions_report (rose : Nat → BtnClass) : (mapActions rose s).report = s.report := by
  simp [mapActions]
@[simp] theorem mapActions_cfg (rose : Nat → BtnClass) : (mapActions rose s).cfg = s.cfg := by
  simp [mapActions]
@[simp] theorem mapActions_pending (rose : Nat → BtnClass) : (mapActions rose s).pending = s.pending := by
  simp [mapActions]
@[simp] theorem mapActions_awaitingReset (rose : Nat → BtnClass) : (mapActions rose s).awaitingReset = s.awaitingReset := by
  simp [mapActions]
@[simp] theorem mapActions_holdDuration (rose : Nat → BtnClass) : (mapActions rose s).config.holdDuration = s.config.holdDuration := by
  simp [mapActions]
@[simp] theorem mapActions_velThreshold (rose : Nat → BtnClass) : (mapActions rose s).config.velThreshold = s.config.velThreshold := by
  simp [mapActions]
@[simp] theorem mapActions_swapNote (rose : Nat → BtnClass) : (mapActions rose s).config.swapNote = s.config.swapNote := by
  simp [mapActions]
@[simp] theorem mapActions_hhThreshold (rose : Nat → BtnClass) : (mapActions rose s).config.hhThreshold = s.config.hhThreshold := by
  simp [mapActions]

/-! ### velocityActions -/
@[simp] theorem velocityActions_parser (rose : Nat → BtnClass) : (velocityActions rose s).parser = s.parser := by
  simp [velocityActions]
@[simp] theorem velocityActions_channels (rose : Nat → BtnClass) : (velocityActions rose s).channels = s.channels := by
  simp [velocityActions]
@[simp] theorem velocityActions_buttons (rose : Nat → BtnClass) : (velocityActions rose s).buttons = s.buttons := by
  simp [velocityActions]
@[simp] theorem velocityActions_mode (rose : Nat → BtnClass) : (velocityActions rose s).mode = s.mode := by
  simp [velocityActions]
@[simp] theorem velocityActions_resp (rose : Nat → BtnClass) : (velocityActions rose s).resp = s.resp := by
  simp [velocityActions]
@[simp] theorem velocityActions_lineRaw (rose : Nat → BtnClass) : (velocityActions rose s).lineRaw = s.lineRaw := by
  simp [velocityActions]
@[simp] theorem velocityActions_report (rose : Nat → BtnClass) : (velocityActions rose s).report = s.report := by
  simp [velocityActions]
@[simp] theorem velocityActions_cfg (rose : Nat → BtnClass) : (velocityActions rose s).cfg = s.cfg := by
  simp [velocityActions]
@[simp] theorem velocityActions_pending (rose : Nat → BtnClass) : (velocityActions rose s).pending = s.pending := by
  simp [velocityActions]
@[simp] theorem velocityActions_awaitingReset (rose : Nat → BtnClass) : (velocityActions rose s).awaitingReset = s.awaitingReset := by
  simp [velocityActions]
@[simp] theorem velocityActions_map (rose : Nat → BtnClass) : (velocityActions rose s).map = s.map := by
  simp [velocityActions]
@[simp] theorem velocityActions_holdDuration (rose : Nat → BtnClass) : (velocityActions rose s).config.holdDuration = s.config.holdDuration := by
  simp [velocityActions]
@[simp] theorem velocityActions_swapNote (rose : Nat → BtnClass) : (velocityActions rose s).config.swapNote = s.config.swapNote := by
  simp [velocityActions]
@[simp] theorem velocityActions_hhThreshold (rose : Nat → BtnClass) : (velocityActions rose s).config.hhThreshold = s.config.hhThreshold := by
  simp [velocityActions]
@[simp] theorem velocityActions_activeBank (rose : Nat → BtnClass) : (velocityActions rose s).config.activeBank = s.config.activeBank := by
  simp [velocityActions]

/-! ### durationActions -/
@[simp] theorem durationActions_parser (rose : Nat → BtnClass) : (durationActions rose s).parser = s.parser := by
  simp [durationActions]
@[simp] theorem durationActions_channels (rose : Nat → BtnClass) : (durationActions rose s).channels = s.channels := by
  simp [durationActions]
@[simp] theorem durationActions_buttons (rose : Nat → BtnClass) : (durationActions rose s).buttons = s.buttons := by
  simp [durationActions]
@[simp] theorem durationActions_mode (rose : Nat → BtnClass) : (durationActions rose s).mode = s.mode := by
  simp [durationActions]
@[simp] theorem durationActions_resp (rose : Nat → BtnClass) : (durationActions rose s).resp = s.resp := by
  simp [durationActions]
@[simp] theorem durationActions_lineRaw (rose : Nat → BtnClass) : (durationActions rose s).lineRaw = s.lineRaw := by
  simp [durationActions]
@[simp] theorem durationActions_report (rose : Nat → BtnClass) : (durationActions rose s).report = s.report := by
  simp [durationActions]
@[simp] theorem durationActions_cfg (rose : Nat → BtnClass) : (durationActions rose s).cfg = s.cfg := by
  simp [durationActions]
@[simp] theorem durationActions_pending (rose : Nat → BtnClass) : (durationActions rose s).pending = s.pending := by
  simp [durationActions]
@[simp] theorem durationActions_awaitingReset (rose : Nat → BtnClass) : (durationActions rose s).awaitingReset = s.awaitingReset := by
  simp [durationActions]
@[simp] theorem durationActions_map (rose : Nat → BtnClass) : (durationActions rose s).map = s.map := by
  simp [durationActions]
@[simp] theorem durationActions_velThreshold (rose : Nat → BtnClass) : (durationActions rose s).config.velThreshold = s.config.velThreshold := by
  simp [durationActions]
@[simp] theorem durationActions_swapNote (rose : Nat → BtnClass) : (durationActions rose s).config.swapNote = s.config.swapNote := by
  simp [durationActions]
@[simp] theorem durationActions_hhThreshold (rose : Nat → BtnClass) : (durationActions rose s).config.hhThreshold = s.config.hhThreshold := by
  simp [durationActions]
@[simp] theorem durationActions_activeBank (rose : Nat → BtnClass) : (durationActions rose s).config.activeBank = s.config.activeBank := by
  simp [durationActions]

/-! ### modeActions -/
@[simp] theorem modeActions_parser (rose : Nat → BtnClass) : (modeActions rose s).parser = s.parser := by
  rw [modeActions]; split <;> simp
@[simp] theorem modeActions_channels (rose : Nat → BtnClass) : (modeActions rose s).channels = s.channels := by
  rw [modeActions]; split <;> simp
@[simp] theorem modeActions_buttons (rose : Nat → BtnClass) : (modeActions rose s).buttons = s.buttons := by
  rw [modeActions]; split <;> simp
@[simp] theorem modeActions_resp (rose : Nat → BtnClass) : (modeActions rose s).resp = s.resp := by
  rw [modeActions]; split <;> simp
@[simp] theorem modeActions_lineRaw (rose : Nat → BtnClass) : (modeActions rose s).lineRaw = s.lineRaw := by
  rw [modeActions]; split <;> simp
@[simp] theorem modeActions_report (rose : Nat → BtnClass) : (modeActions rose s).report = s.report := by
  rw [modeActions]; split <;> simp
@[simp] theorem modeActions_cfg (rose : Nat → BtnClass) : (modeActions rose s).cfg = s.cfg := by
  rw [modeActions]; split <;> simp
@[simp] theorem modeActions_pending (rose : Nat → BtnClass) : (modeActions rose s).pending = s.pending := by
  rw [modeActions]; split <;> simp
@[simp] theorem modeActions_awaitingReset (rose : Nat → BtnClass) : (modeActions rose s).awaitingReset = s.awaitingReset := by
  rw [modeActions]; split <;> simp
@[simp] theorem modeActions_swapNote (rose : Nat → BtnClass) : (modeActions rose s).config.swapNote = s.config.swapNote := by
  rw [modeActions]; split <;> simp
@[simp] theorem modeActions_hhThreshold (rose : Nat → BtnClass) : (modeActions rose s).config.hhThreshold = s.config.hhThreshold := by
  rw [modeActions]; split <;> simp

/-! ### modeStep -/
@[simp] theorem modeStep_parser (rose : Nat → BtnClass) : (modeStep rose s).parser = s.parser := by
  rw [modeStep]; repeat' split
  all_goals simp
@[simp] theorem modeStep_channels (rose : Nat → BtnClass) : (modeStep rose s).channels = s.channels := by
  rw [modeStep]; repeat' split
  all_goals simp
@[simp] theorem modeStep_buttons (rose : Nat → BtnClass) : (modeStep rose s).buttons = s.buttons := by
  rw [modeStep]; repeat' split
  all_goals simp
@[simp] theorem modeStep_resp (rose : Nat → BtnClass) : (modeStep rose s).resp = s.resp := by
  rw [modeStep]; repeat' split
  all_goals simp
@[simp] theorem modeStep_lineRaw (rose : Nat → BtnClass) : (modeStep rose s).lineRaw = s.lineRaw := by
  rw [modeStep]; repeat' split
  all_goals simp
@[simp] theorem modeStep_report (rose : Nat → BtnClass) : (modeStep rose s).report = s.report := by
  rw [modeStep]; repeat' split
  all_goals simp
@[simp] theorem modeStep_cfg (rose : Nat → BtnClass) : (modeStep rose s).cfg = s.cfg := by
  rw [modeStep]; repeat' split
  all_goals simp
@[simp] theorem modeStep_pending (rose : Nat → BtnClass) : (modeStep rose s).pending = s.pending := by
  rw [modeStep]; repeat' split
  all_goals simp
@[simp] theorem modeStep_awaitingReset (rose : Nat → BtnClass) : (modeStep rose s).awaitingReset = s.awaitingReset := by
  rw [modeStep]; repeat' split
  all_goals simp
@[simp] theorem modeStep_swapNote (rose : Nat → BtnClass) : (modeStep rose s).config.swapNote = s.config.swapNote := by
  rw [modeStep]; repeat' split
  all_goals simp
@[simp] theorem modeStep_hhThreshold (rose : Nat → BtnClass) : (modeStep rose s).config.hhThreshold = s.config.hhThreshold := by
  rw [modeStep]; repeat' split
  all_goals simp

/-! ### routeNoteOn -/
@[simp] theorem routeNoteOn_parser (n v : Data7) : (routeNoteOn n v s).parser = s.parser := by
  simp only [routeNoteOn, routePlay]; repeat' split
  all_goals simp
@[simp] theorem routeNoteOn_buttons (n v : Data7) : (routeNoteOn n v s).buttons = s.buttons := by
  simp only [routeNoteOn, routePlay]; repeat' split
  all_goals simp
@[simp] theorem routeNoteOn_mode (n v : Data7) : (routeNoteOn n v s).mode = s.mode := by
  simp only [routeNoteOn, routePlay]; repeat' split
  all_goals simp
@[simp] theorem routeNoteOn_resp (n v : Data7) : (routeNoteOn n v s).resp = s.resp := by
  simp only [routeNoteOn, routePlay]; repeat' split
  all_goals simp
@[simp] theorem routeNoteOn_lineRaw (n v : Data7) : (routeNoteOn n v s).lineRaw = s.lineRaw := by
  simp only [routeNoteOn, routePlay]; repeat' split
  all_goals simp
@[simp] theorem routeNoteOn_report (n v : Data7) : (routeNoteOn n v s).report = s.report := by
  simp only [routeNoteOn, routePlay]; repeat' split
  all_goals simp
@[simp] theorem routeNoteOn_cfg (n v : Data7) : (routeNoteOn n v s).cfg = s.cfg := by
  simp only [routeNoteOn, routePlay]; repeat' split
  all_goals simp
@[simp] theorem routeNoteOn_pending (n v : Data7) : (routeNoteOn n v s).pending = s.pending := by
  simp only [routeNoteOn, routePlay]; repeat' split
  all_goals simp
@[simp] theorem routeNoteOn_awaitingReset (n v : Data7) : (routeNoteOn n v s).awaitingReset = s.awaitingReset := by
  simp only [routeNoteOn, routePlay]; repeat' split
  all_goals simp
@[simp] theorem routeNoteOn_holdDuration (n v : Data7) : (routeNoteOn n v s).config.holdDuration = s.config.holdDuration := by
  simp only [routeNoteOn, routePlay]; repeat' split
  all_goals simp
@[simp] theorem routeNoteOn_velThreshold (n v : Data7) : (routeNoteOn n v s).config.velThreshold = s.config.velThreshold := by
  simp only [routeNoteOn, routePlay]; repeat' split
  all_goals simp
@[simp] theorem routeNoteOn_swapNote (n v : Data7) : (routeNoteOn n v s).config.swapNote = s.config.swapNote := by
  simp only [routeNoteOn, routePlay]; repeat' split
  all_goals simp
@[simp] theorem routeNoteOn_hhThreshold (n v : Data7) : (routeNoteOn n v s).config.hhThreshold = s.config.hhThreshold := by
  simp only [routeNoteOn, routePlay]; repeat' split
  all_goals simp

/-! ### completeNoteOn -/
@[simp] theorem completeNoteOn_buttons (v : Data7) : (completeNoteOn v s).buttons = s.buttons := by
  simp only [completeNoteOn]; repeat' split
  all_goals simp
@[simp] theorem completeNoteOn_mode (v : Data7) : (completeNoteOn v s).mode = s.mode := by
  simp only [completeNoteOn]; repeat' split
  all_goals simp
@[simp] theorem completeNoteOn_resp (v : Data7) : (completeNoteOn v s).resp = s.resp := by
  simp only [completeNoteOn]; repeat' split
  all_goals simp
@[simp] theorem completeNoteOn_lineRaw (v : Data7) : (completeNoteOn v s).lineRaw = s.lineRaw := by
  simp only [completeNoteOn]; repeat' split
  all_goals simp
@[simp] theorem completeNoteOn_report (v : Data7) : (completeNoteOn v s).report = s.report := by
  simp only [completeNoteOn]; repeat' split
  all_goals simp
@[simp] theorem completeNoteOn_cfg (v : Data7) : (completeNoteOn v s).cfg = s.cfg := by
  simp only [completeNoteOn]; repeat' split
  all_goals simp
@[simp] theorem completeNoteOn_pending (v : Data7) : (completeNoteOn v s).pending = s.pending := by
  simp only [completeNoteOn]; repeat' split
  all_goals simp
@[simp] theorem completeNoteOn_awaitingReset (v : Data7) : (completeNoteOn v s).awaitingReset = s.awaitingReset := by
  simp only [completeNoteOn]; repeat' split
  all_goals simp
@[simp] theorem completeNoteOn_holdDuration (v : Data7) : (completeNoteOn v s).config.holdDuration = s.config.holdDuration := by
  simp only [completeNoteOn]; repeat' split
  all_goals simp
@[simp] theorem completeNoteOn_velThreshold (v : Data7) : (completeNoteOn v s).config.velThreshold = s.config.velThreshold := by
  simp only [completeNoteOn]; repeat' split
  all_goals simp
@[simp] theorem completeNoteOn_swapNote (v : Data7) : (completeNoteOn v s).config.swapNote = s.config.swapNote := by
  simp only [completeNoteOn]; repeat' split
  all_goals simp
@[simp] theorem completeNoteOn_hhThreshold (v : Data7) : (completeNoteOn v s).config.hhThreshold = s.config.hhThreshold := by
  simp only [completeNoteOn]; repeat' split
  all_goals simp

end Sys2Proof.Machine
end

