-- ==== Sys2Proof/Laws/Events.lean ====
section
/-! SUPPORT. What each event's operation can do to the store (`StoreStep`), and that it keeps the mirror of the store (R71). -/
namespace Sys2Proof.Machine

/-! ### The configuration writers -/

theorem storeStep_writeHold (v : Byte) (s : State) : StoreStep s (writeHold v s) :=
  StoreStep.after (s' := { s with config := { s.config with holdDuration := v } }) (.write (fun hv => addr_hold_lt hv)) rfl rfl rfl rfl rfl

theorem storeStep_writeVelThreshold (v : Byte) (s : State) : StoreStep s (writeVelThreshold v s) :=
  StoreStep.after (s' := { s with config := { s.config with velThreshold := v } }) (.write (fun hv => addr_velthr_lt hv)) rfl rfl rfl rfl rfl

theorem storeStep_writeSwapNote (v : Byte) (s : State) : StoreStep s (writeSwapNote v s) :=
  StoreStep.after (s' := { s with config := { s.config with swapNote := v } }) (.write (fun hv => addr_swap_lt hv)) rfl rfl rfl rfl rfl

theorem storeStep_writeHhThreshold (v : Byte) (s : State) : StoreStep s (writeHhThreshold v s) :=
  StoreStep.after (s' := { s with config := { s.config with hhThreshold := v } }) (.write (fun hv => addr_hhthr_lt hv)) rfl rfl rfl rfl rfl

/-! ### TICK -/

theorem Mirror.edge {b : Bool} {f : State → State} {s : State} (h : Mirror s) (hf : Mirror s → Mirror (f s)) :
    Mirror (onEdge b f s) := by
  cases b
  · exact h
  · exact hf h

theorem storeStep_mapActions (rose : Nat → BtnClass) (s : State) : StoreStep s (mapActions rose s) := by
  simp only [mapActions]
  refine .trans ?_ (.edge (storeStep_restoreDefaults _ _))
  refine .trans ?_ (.edge (storeStep_clearChannel _ _))
  refine .trans ?_ (.edge (storeStep_selectBank _ _))
  refine .trans ?_ (.edge (storeStep_selectBank _ _))
  refine .trans ?_ (.edge (.quiet rfl rfl rfl rfl rfl))
  exact .edge (.quiet rfl rfl rfl rfl rfl)

theorem storeStep_velocityActions (rose : Nat → BtnClass) (s : State) : StoreStep s (velocityActions rose s) := by
  simp only [velocityActions]
  refine .trans ?_ (.edge (storeStep_writeVelThreshold _ _))
  exact .trans (.edge (storeStep_writeVelThreshold _ _)) (.edge (storeStep_writeVelThreshold _ _))

theorem storeStep_durationActions (rose : Nat → BtnClass) (s : State) : StoreStep s (durationActions rose s) := by
  simp only [durationActions]
  refine .trans ?_ (.edge (storeStep_writeHold _ _))
  exact .trans (.edge (storeStep_writeHold _ _)) (.edge (storeStep_writeHold _ _))

theorem storeStep_modeActions (rose : Nat → BtnClass) (s : State) : StoreStep s (modeActions rose s) := by
  simp only [modeActions]
  split
  · rw [playActions]
    split
    · exact .refl s
    · exact .edge (storeStep_cycleBank s)
  · exact storeStep_mapActions rose s
  · exact storeStep_velocityActions rose s
  · exact storeStep_durationActions rose s

theorem storeStep_modeStep (rose : Nat → BtnClass) (s : State) : StoreStep s (modeStep rose s) := by
  simp only [modeStep]
  split
  · exact .refl s
  · split
    · exact .quiet rfl rfl rfl rfl rfl
    · exact storeStep_modeActions rose s

theorem storeStep_tickEvent (ls : List Bool) (s : State) : StoreStep s (tickEvent ls s) := by
  have h1 : StoreStep s (sampleStep ls s) := .quiet rfl rfl rfl rfl rfl
  have h2 : StoreStep s (modeStep (tickRose ls s) (sampleStep ls s)) := h1.trans (storeStep_modeStep _ _)
  exact h2.trans (t := modeStep (tickRose ls s) (sampleStep ls s)) (.quiet rfl rfl rfl rfl rfl)

theorem mirror_mapActions {s : State} (h : Mirror s) (rose : Nat → BtnClass) : Mirror (mapActions rose s) := by
  simp only [mapActions]
  refine Mirror.edge ?_ (fun h => mirror_restoreActive h)
  refine Mirror.edge ?_ (fun h => mirror_clearChannel h _)
  refine Mirror.edge ?_ (fun h => mirror_selectBank h _)
  refine Mirror.edge ?_ (fun h => mirror_selectBank h _)
  refine Mirror.edge ?_ (fun h => h.of_eq rfl rfl rfl rfl)
  exact Mirror.edge h (fun h => h.of_eq rfl rfl rfl rfl)

theorem mirror_modeActions {s : State} (h : Mirror s) (rose : Nat → BtnClass) : Mirror (modeActions rose s) := by
  simp only [modeActions]
  split
  · rw [playActions]
    split
    · exact h
    · exact h.edge mirror_cycleBank
  · exact mirror_mapActions h rose
  · simp only [velocityActions]
    refine Mirror.edge ?_ (fun h => mirror_writeVelThreshold h _)
    refine Mirror.edge ?_ (fun h => mirror_writeVelThreshold h _)
    exact h.edge (fun h => mirror_writeVelThreshold h _)
  · simp only [durationActions]
    refine Mirror.edge ?_ (fun h => mirror_writeHold h _)
    refine Mirror.edge ?_ (fun h => mirror_writeHold h _)
    exact h.edge (fun h => mirror_writeHold h _)

theorem mirror_modeStep {s : State} (h : Mirror s) (rose : Nat → BtnClass) : Mirror (modeStep rose s) := by
  simp only [modeStep]
  split
  · exact h
  · split
    · exact h.of_eq rfl rfl rfl rfl
    · exact mirror_modeActions h rose

theorem mirror_tickEvent {s : State} (h : Mirror s) (ls : List Bool) : Mirror (tickEvent ls s) := by
  have h1 : Mirror (sampleStep ls s) := h.of_eq rfl rfl rfl rfl
  exact (mirror_modeStep h1 _).of_eq rfl rfl rfl rfl

/-! ### BYTE -/

theorem storeStep_routeNoteOn (n v : Data7) (s : State) : StoreStep s (routeNoteOn n v s) := by
  simp only [routeNoteOn, routePlay]
  split
  · split
    · exact storeStep_cycleBank s
    · exact .quiet rfl rfl rfl rfl rfl
  · exact storeStep_addMapping _ _ _ _ s
  · exact .refl s
  · exact .refl s

theorem storeStep_completeNoteOn (v : Data7) (s : State) : StoreStep s (completeNoteOn v s) := by
  simp only [completeNoteOn]
  split
  · exact .quiet rfl rfl rfl rfl rfl
  · split
    · have h : StoreStep s (emit (.noteOn s.parser.pendingNote v) (recordOn s.parser.pendingNote v s)) :=
        .quiet rfl rfl rfl rfl rfl
      exact h.trans (storeStep_routeNoteOn _ _ _)
    · exact .refl s

theorem mirror_routeNoteOn {s : State} (h : Mirror s) (n v : Data7) : Mirror (routeNoteOn n v s) := by
  simp only [routeNoteOn, routePlay]
  split
  · split
    · exact mirror_cycleBank h
    · exact h.of_eq rfl rfl rfl rfl
  · exact mirror_addMapping h _ _ _ _
  · exact h
  · exact h

theorem mirror_completeNoteOn {s : State} (h : Mirror s) (v : Data7) : Mirror (completeNoteOn v s) := by
  simp only [completeNoteOn]
  split
  · exact h.of_eq rfl rfl rfl rfl
  · split
    · have h' : Mirror (emit (.noteOn s.parser.pendingNote v) (recordOn s.parser.pendingNote v s)) :=
        h.of_eq rfl rfl rfl rfl
      exact mirror_routeNoteOn h' _ _
    · exact h

/-! ### RESET -/

theorem storeStep_restoreAll (s : State) : StoreStep s (restoreAll s) := by
  have h1 : StoreStep s (storeWrites (defaultConfigWrites s.cfg) s) :=
    .writes (fun hv w hw => addr_lt hv _ (by
      simp only [defaultConfigWrites, List.mem_cons, List.not_mem_nil, or_false] at hw
      rcases hw with rfl | rfl | rfl | rfl | rfl <;> simp [Cfg.addrs]))
  have h2 := (h1.trans (storeStep_restoreDefaults 0 _)).trans (storeStep_restoreDefaults 1 _)
  refine (h2.trans (t := _) (.write (a := s.cfg.ADDR_VERSION) (v := s.cfg.SCHEMA_VERSION) (fun hv => ?_))).trans
    (.quiet rfl rfl rfl rfl rfl)
  rw [h2.cfg] at hv ⊢
  exact addr_version_lt hv

theorem storeStep_bootCheck (s : State) : StoreStep s (bootCheck s) := by
  have h : StoreStep s (storeRead s.cfg.ADDR_VERSION s) := .reads (as := [s.cfg.ADDR_VERSION]) (by simpa using fun hv => addr_version_lt hv)
  exact .ite (fun _ => h) (fun _ => h.trans (storeStep_restoreAll _))

/-- Every StoreWrite of R363, in order. -/
def restoreWrites (c : Cfg) : List (Nat × Byte) :=
  defaultConfigWrites c ++ defaultWrites c 0 ++ defaultWrites c 1 ++ [(c.ADDR_VERSION, c.SCHEMA_VERSION)]

/-- `restoreDefaults` of a bank that exists (R182). -/
theorem restoreDefaults_of_le {b : Nat} {s : State} (h : b ≤ 1) :
    restoreDefaults b s =
      { s with
        map := if b = bankNum s.config.activeBank then defaultTable s.cfg b else s.map
        store := s.store.replay ((defaultWrites s.cfg b).map (fun w => .set w.1 w.2))
        bus := s.bus ++ (defaultWrites s.cfg b).map (fun w => .set w.1 w.2) } := by
  rw [restoreDefaults, if_neg (by omega), storeWrites_eq]
  by_cases e : b = bankNum s.config.activeBank
  · rw [if_pos e]; simp only [if_pos e]
  · rw [if_neg e]; simp only [if_neg e]

/-- RestoreAll: the active bank's default table, R363's writes in order, and DISTRESS. -/
theorem restoreAll_eq (s : State) :
    restoreAll s =
      { s with
        map := defaultTable s.cfg (bankNum s.config.activeBank)
        mode := { s.mode with distress := true }
        store := s.store.replay ((restoreWrites s.cfg).map (fun w => .set w.1 w.2))
        bus := s.bus ++ (restoreWrites s.cfg).map (fun w => .set w.1 w.2) } := by
  have hb := bankNum_le s.config.activeBank
  rw [restoreAll, restoreDefaults_of_le (b := 0) (by omega), restoreDefaults_of_le (b := 1) (by omega), storeWrites_eq]
  simp only [restoreWrites, List.map_append, replay_append, storeWrite, raiseDistress, ← List.append_assoc]
  congr 1
  rcases (show bankNum s.config.activeBank = 0 ∨ bankNum s.config.activeBank = 1 by omega) with e | e <;> simp [e]

/-- The default configuration bytes go to configuration addresses. -/
theorem addr_of_mem_defaultConfigWrites {c : Cfg} {w : Nat × Byte} (h : w ∈ defaultConfigWrites c) : w.1 ∈ c.addrs := by
  simp only [defaultConfigWrites, List.mem_cons, List.not_mem_nil, or_false] at h
  rcases h with rfl | rfl | rfl | rfl | rfl <;> simp [Cfg.addrs]

/-- After RestoreAll's writes a configuration byte and the marker hold their defaults (R363). -/
theorem read_restoreWrites_config {c : Cfg} (hv : c.valid = true) {m : Memory} (hm : m.wf = true) {w : Nat × Byte}
    (hw : w ∈ defaultConfigWrites c ∨ w = (c.ADDR_VERSION, c.SCHEMA_VERSION)) :
    (m.replay ((restoreWrites c).map (fun w => .set w.1 w.2))).read w.1 = w.2 := by
  have ha : w.1 ∈ c.addrs := by rcases hw with hw | rfl; exact addr_of_mem_defaultConfigWrites hw; simp [Cfg.addrs]
  apply read_replay_sets hm
  · intro x hx e
    simp only [restoreWrites, List.mem_append, List.mem_singleton] at hx
    have slot : ∀ b, x ∉ defaultWrites c b := by
      intro b hb
      obtain ⟨ch, hc, sl, hs, rfl⟩ := mem_defaultWrites.1 hb
      exact slotAddr_ne_addr hv hc hs (e ▸ ha)
    have hx : x ∈ defaultConfigWrites c ∨ x = (c.ADDR_VERSION, c.SCHEMA_VERSION) := by
      rcases hx with ((hx | hx) | hx) | hx
      · exact .inl hx
      · exact absurd hx (slot 0)
      · exact absurd hx (slot 1)
      · exact .inr hx
    have hn : ((defaultConfigWrites c ++ [(c.ADDR_VERSION, c.SCHEMA_VERSION)]).map Prod.fst).Nodup := by
      exact List.nodup_append_comm.1
        (show ([c.ADDR_VERSION] ++ [c.ADDR_HOLD, c.ADDR_VELTHR, c.ADDR_BANK, c.ADDR_SWAP, c.ADDR_HHTHR]).Nodup from
          (valid_layout hv).1)
    have h1 : x ∈ defaultConfigWrites c ++ [(c.ADDR_VERSION, c.SCHEMA_VERSION)] := by simpa using hx
    have h2 : w ∈ defaultConfigWrites c ++ [(c.ADDR_VERSION, c.SCHEMA_VERSION)] := by simpa using hw
    rw [List.inj_on_of_nodup_map hn h1 h2 e]
  · refine ⟨w, ?_, rfl⟩
    simp only [restoreWrites, List.mem_append, List.mem_singleton]
    rcases hw with hw | hw <;> simp [hw]

/-- After RestoreAll's writes every entry of both banks holds its default (R363). -/
theorem read_restoreWrites_slot {c : Cfg} (hv : c.valid = true) {m : Memory} (hm : m.wf = true) {b ch sl : Nat}
    (hb : b ≤ 1) (hc : ch < c.C) (hs : sl < c.S) :
    (m.replay ((restoreWrites c).map (fun w => .set w.1 w.2))).read (slotAddr c b ch sl) =
      ((defaultTable c b).getD ch []).getD sl c.UNASSIGNED := by
  apply read_replay_sets hm
  · intro x hx e
    simp only [restoreWrites, List.mem_append, List.mem_singleton] at hx
    have hn : x.1 ∉ c.addrs := fun h => slotAddr_ne_addr hv hc hs (e ▸ h)
    have : x ∈ defaultWrites c b := by
      have other : ∀ b', (b = 0) ≠ (b' = 0) → x ∉ defaultWrites c b' := by
        intro b' hbb hx
        obtain ⟨ch', hc', sl', hs', rfl⟩ := mem_defaultWrites.1 hx
        exact slotAddr_banks_ne hv hc hs hc' hs' hbb e.symm
      rcases hx with ((hx | hx) | hx) | hx
      · exact absurd (addr_of_mem_defaultConfigWrites hx) hn
      · rcases (show b = 0 ∨ b = 1 by omega) with rfl | rfl
        · exact hx
        · exact absurd hx (other 0 (by simp))
      · rcases (show b = 0 ∨ b = 1 by omega) with rfl | rfl
        · exact absurd hx (other 1 (by simp))
        · exact hx
      · subst hx; exact absurd (by simp [Cfg.addrs]) hn
    obtain ⟨ch', hc', sl', hs', rfl⟩ := mem_defaultWrites.1 this
    obtain ⟨rfl, rfl⟩ := slotAddr_inj hs' hs e
    rfl
  · have key : (slotAddr c b ch sl, ((defaultTable c b).getD ch []).getD sl c.UNASSIGNED) ∈ defaultWrites c b :=
      mem_defaultWrites.2 ⟨ch, hc, sl, hs, rfl⟩
    refine ⟨(slotAddr c b ch sl, ((defaultTable c b).getD ch []).getD sl c.UNASSIGNED), ?_, rfl⟩
    simp only [restoreWrites, List.mem_append]
    rcases (show b = 0 ∨ b = 1 by omega) with rfl | rfl
    · exact .inl (.inl (.inr key))
    · exact .inl (.inr key)

/-- BootCheck under a matching marker: one store read (R362). -/
theorem bootCheck_of_eq {s : State} (h : s.store.read s.cfg.ADDR_VERSION = s.cfg.SCHEMA_VERSION) :
    bootCheck s = { s with bus := s.bus ++ [.get s.cfg.ADDR_VERSION] } := by
  rw [bootCheck, if_pos h]; rfl

/-- BootCheck under any other marker: the read, then RestoreAll (R362, R363). -/
theorem bootCheck_of_ne {s : State} (h : s.store.read s.cfg.ADDR_VERSION ≠ s.cfg.SCHEMA_VERSION) :
    bootCheck s = restoreAll { s with bus := s.bus ++ [.get s.cfg.ADDR_VERSION] } := by
  rw [bootCheck, if_neg h]; rfl

/-- The reads of R364 and what they leave: the registers raw, bit 0 of the bank byte, and that bank's bytes as the cache. -/
theorem loadFromStore_eq (s : State) :
    loadFromStore s =
      { s with
        config :=
          { holdDuration := s.store.read s.cfg.ADDR_HOLD
            velThreshold := s.store.read s.cfg.ADDR_VELTHR
            activeBank := (s.store.read s.cfg.ADDR_BANK).extractLsb' 0 1
            swapNote := s.store.read s.cfg.ADDR_SWAP
            hhThreshold := s.store.read s.cfg.ADDR_HHTHR }
        map := loadBank s.cfg s.store (bankNum ((s.store.read s.cfg.ADDR_BANK).extractLsb' 0 1))
        bus := s.bus ++ ([s.cfg.ADDR_HOLD, s.cfg.ADDR_VELTHR, s.cfg.ADDR_SWAP, s.cfg.ADDR_HHTHR, s.cfg.ADDR_BANK]).map .get ++
          (bankAddrs s.cfg (bankNum ((s.store.read s.cfg.ADDR_BANK).extractLsb' 0 1))).flatten.map .get } := by
  have hb := bankNum_le ((s.store.read s.cfg.ADDR_BANK).extractLsb' 0 1)
  have he : BitVec.ofNat 1 (((s.store.read s.cfg.ADDR_BANK).extractLsb' 0 1).toNat) =
      (s.store.read s.cfg.ADDR_BANK).extractLsb' 0 1 := by
    rw [BitVec.ofNat_toNat]; exact BitVec.setWidth_eq _
  unfold loadFromStore switchBank
  rw [if_neg (show ¬ 1 < ((s.store.read s.cfg.ADDR_BANK).extractLsb' 0 1).toNat from by simpa [bankNum] using hb), he]
  rfl

theorem storeStep_loadFromStore (s : State) : StoreStep s (loadFromStore s) := by
  rw [loadFromStore_eq]
  refine ⟨rfl, rfl, rfl, _, List.append_assoc _ _ _, ?_, ?_⟩
  · simp only [← List.map_append, replay_gets]
  · intro hv o ho
    rcases List.mem_append.1 ho with ho | ho
    · obtain ⟨a, ha, rfl⟩ := List.mem_map.1 ho
      exact addr_lt hv a (by simp [Cfg.addrs] at ha ⊢; tauto)
    · obtain ⟨a, ha, rfl⟩ := List.mem_map.1 ho
      exact bankAddrs_lt hv _ a ha

/-- From the state that holds the power-up store, RESET changes the store by its calls alone. -/
theorem storeStep_resetEvent (store0 : List Byte) (s : State) :
    StoreStep (initRegisters { s with store := bootStore store0 s }) (resetEvent store0 s) :=
  (storeStep_bootCheck _).trans (storeStep_loadFromStore _)

/-- The power-up store is canonical and within the addresses that exist. -/
theorem storeOk_bootStore {store0 : List Byte} {s : State} (h : StoreOk s) (hl : store0.length = s.cfg.STORE_SIZE) :
    (bootStore store0 s).wf = true ∧ ∀ p ∈ bootStore store0 s, p.1 < s.cfg.STORE_SIZE := by
  rw [bootStore]
  split
  · refine ⟨ofImage_wf _ _, fun p hp => ?_⟩
    have := ofImage_bound store0 0 p hp
    omega
  · exact h

/-- Loading from a store makes the registers mirror it (R364). -/
theorem mirror_loadFromStore {s : State} (hv : s.cfg.valid = true) (hs : StoreOk s) : Mirror (loadFromStore s) := by
  rw [loadFromStore_eq]
  exact Mirror.of_coherent hv hs ⟨rfl, rfl, rfl, rfl, rfl, rfl⟩

end Sys2Proof.Machine
end

