-- ==== Sys2Proof/Laws/Effect.lean ====
section
/-! SUPPORT. Every instruction is one event (`exec_eq`): what it does to the state, and what that can do to the store. -/
namespace Sys2Proof.Machine

/-- What a request with a valid prefix does after the common response write. -/
def afterRespond (a : HostArgs) (f : State → State) (s : State) : State := f (respond a s)

/-- What a BYTE does after EVENTS is cleared. -/
def afterClear (f : State → State) (s : State) : State := f (clearEvents s)

@[simp] theorem afterRespond_apply (a : HostArgs) (f : State → State) (s : State) : afterRespond a f s = f (respond a s) := rfl
@[simp] theorem afterClear_apply (f : State → State) (s : State) : afterClear f s = f (clearEvents s) := rfl

/-- The operation of each instruction's event. -/
def effect : Instr → State → State
  | .noteOff _, s => afterClear (handledStatus 0x80 .waitingForNoteOff) s
  | .noteOn _, s => afterClear (handledStatus 0x90 .waitingForNoteOn) s
  | .polyAftertouch _, s => afterClear (handledStatus 0xA0 .waitingForData1Of2) s
  | .controlChange _, s => afterClear (handledStatus 0xB0 .waitingForCCData1) s
  | .programChange _, s => afterClear (handledStatus 0xC0 .waitingForData1Only) s
  | .channelAftertouch _, s => afterClear (handledStatus 0xD0 .waitingForData1Only) s
  | .pitchBend _, s => afterClear (handledStatus 0xE0 .waitingForData1Of2) s
  | .sysexStart, s => afterClear (fun t => handledStatus 0xF0 .collectSysExData (resetSysex t)) s
  | .quarterFrame, s => afterClear (handledStatus 0xF1 .waitingForData1Only) s
  | .songPosition, s => afterClear (handledStatus 0xF2 .waitingForData1Of2) s
  | .songSelect, s => afterClear (handledStatus 0xF3 .waitingForData1Only) s
  | .sysexEnd, s => afterClear (handledStatus 0xF7 .waitingForStatus) s
  | .timingClock, s => afterClear noopStatus s
  | .activeSensing, s => afterClear noopStatus s
  | .undefF4, s => afterClear noopStatus s
  | .undefF5, s => afterClear noopStatus s
  | .tuneRequest, s => afterClear noopStatus s
  | .undefF9, s => afterClear noopStatus s
  | .midiStart, s => afterClear noopStatus s
  | .midiContinue, s => afterClear noopStatus s
  | .midiStop, s => afterClear noopStatus s
  | .undefFD, s => afterClear noopStatus s
  | .systemReset, s => afterClear noopStatus s
  | .dataWaitingForStatus _, s => afterClear (fun t => t) s
  | .dataWaitingForNoteOn v, s => afterClear (fun t => setMState .waitingForOnVelocity (clearOff (setPending v t))) s
  | .dataWaitingForOnVelocity v, s => afterClear (fun t => setMState .waitingForNoteOn (completeNoteOn v t)) s
  | .dataWaitingForNoteOff v, s => afterClear (fun t => setMState .waitingForOffVelocity (setPending v t)) s
  | .dataWaitingForOffVelocity _, s => afterClear (fun t =>
      setMState .waitingForStatus (emit (.noteOff t.parser.pendingNote) (recordOff t.parser.pendingNote t))) s
  | .dataWaitingForCCData1 v, s => afterClear (fun t =>
      setMState (if v = t.cfg.HH_CC then .waitingForPedalData else .waitingForCCData2) t) s
  | .dataWaitingForCCData2 _, s => afterClear (setMState .waitingForStatus) s
  | .dataWaitingForPedalData v, s => afterClear (fun t => setMState .waitingForStatus (emit (.pedal v) (setPedal v t))) s
  | .dataWaitingForData1Only _, s => afterClear (setMState .waitingForStatus) s
  | .dataWaitingForData1Of2 _, s => afterClear (setMState .waitingForData2) s
  | .dataWaitingForData2 _, s => afterClear (setMState .waitingForStatus) s
  | .dataCollectSysExData v, s => afterClear (appendSysex v) s
  | .getVersion a, s => afterRespond a (fun t => answerY t.cfg.VERSION_MINOR (answerX t.cfg.VERSION_MAJOR t)) s
  | .getFeatures a, s => afterRespond a (fun t =>
      answerY (t.cfg.FEATURES.extractLsb' 8 8) (answerX (t.cfg.FEATURES.extractLsb' 0 8) t)) s
  | .enterCmdMode a, s => afterRespond a (fun t => answerX 1 (enterCommandMode t)) s
  | .exitCmdMode a, s => afterRespond a (fun t => answerX 0 (exitCommandMode t)) s
  | .getHold a, s => afterRespond a (fun t => answerX t.config.holdDuration t) s
  | .setHold a, s => afterRespond a (fun t =>
      let u := setIf (decide (1 ≤ a.p0.toNat ∧ a.p0.toNat ≤ 6)) (writeHold a.p0) t
      answerX u.config.holdDuration u) s
  | .getVelthr a, s => afterRespond a (fun t => answerX t.config.velThreshold t) s
  | .setVelthr a, s => afterRespond a (fun t =>
      let u := setIf (decide (a.p0.toNat ≤ 127)) (writeVelThreshold a.p0) t
      answerX u.config.velThreshold u) s
  | .getSwap a, s => afterRespond a (fun t => answerX t.config.swapNote t) s
  | .setSwap a, s => afterRespond a (fun t => answerX (writeSwapNote a.p0 t).config.swapNote (writeSwapNote a.p0 t)) s
  | .getHhthr a, s => afterRespond a (fun t => answerX t.config.hhThreshold t) s
  | .setHhthr a, s => afterRespond a (fun t =>
      let u := setIf (decide (a.p0.toNat ≤ 127)) (writeHhThreshold a.p0) t
      answerX u.config.hhThreshold u) s
  | .getBank a, s => afterRespond a (fun t => answerX (t.config.activeBank.setWidth 8) t) s
  | .setBank a, s => afterRespond a (fun t =>
      let u := setIf (decide (a.p0.toNat ≤ 1)) (selectBank a.p0.toNat) t
      answerX (u.config.activeBank.setWidth 8) u) s
  | .getMap a, s => afterRespond a (fun t =>
      if a.p0.toNat < t.cfg.C ∧ a.p1.toNat < t.cfg.S then answerX (mapGet t a.p0.toNat a.p1.toNat) t else t) s
  | .setMap a, s => afterRespond a (fun t =>
      if a.p0.toNat < t.cfg.C ∧ a.p1.toNat < t.cfg.S then
        answerX (mapGet (mapSet a.p0.toNat a.p1.toNat a.p2 t) a.p0.toNat a.p1.toNat) (mapSet a.p0.toNat a.p1.toNat a.p2 t)
      else t) s
  | .forceOutput a, s => afterRespond a (fun t =>
      if a.p0.toNat < t.cfg.C then
        answerX (bitByte ((forceChannel a.p0.toNat (decide (a.p1 ≠ 0)) t).channels.getD a.p0.toNat {}).forceOn)
          (forceChannel a.p0.toNat (decide (a.p1 ≠ 0)) t)
      else t) s
  | .readLine a, s => afterRespond a (fun t =>
      if a.p0.toNat < t.cfg.NL then answerX (bitByte (t.lineRaw.getD a.p0.toNat false)) t else t) s
  | .hostUnknownOpcode _ a, s => afterRespond a (fun t => { t with resp := { t.resp with z := logicalComplement a.seq } }) s
  | .hostInvalidPrefix _ _ _, s => s
  | .tick lines, s => tickEvent lines s
  | .linkErr, s => linkErrEvent s
  | .reset store0, s => resetEvent store0 s

/-- Every instruction is one event. -/
theorem exec_eq (i : Instr) (s : State) : exec i s = onEvent s (effect i) := by cases i <;> rfl

/-- If an instruction answers a next state, it is its operation's, and every store call of it exists. -/
theorem exec_next {i : Instr} {s t : State} :
    exec i s = .next t ↔ t = effect i (beginEvent s) ∧ ∀ o ∈ t.bus, o.addr < t.cfg.STORE_SIZE := by
  rw [exec_eq]; exact onEvent_next

/-- An instruction without a store call answers a next state. -/
theorem exec_of_bus_nil {i : Instr} {s : State} (h : (effect i (beginEvent s)).bus = []) :
    exec i s = .next (effect i (beginEvent s)) := by
  rw [exec_eq]; exact onEvent_of_bus_nil h

/-- Every instruction but RESET changes the store by its calls alone; RESET starts from the power-up store. -/
theorem storeStep_effect (i : Instr) (s : State) :
    StoreStep (match i with
      | .reset m => initRegisters { s with store := bootStore m s }
      | _ => s) (effect i s) := by
  cases i
  case dataWaitingForOnVelocity v =>
    have h : StoreStep s (completeNoteOn v (clearEvents s)) :=
      (StoreStep.quiet (s := s) (t := clearEvents s) rfl rfl rfl rfl rfl).trans (storeStep_completeNoteOn v _)
    exact h.trans (t := completeNoteOn v (clearEvents s)) (.quiet rfl rfl rfl rfl rfl)
  case dataCollectSysExData v =>
    simp only [effect]
    exact .ite (fun _ => .quiet rfl rfl rfl rfl rfl) (fun _ => .quiet rfl rfl rfl rfl rfl)
  case tick ls => exact storeStep_tickEvent ls s
  case linkErr =>
    simp only [effect, linkErrEvent]
    exact .ite (fun _ => .quiet rfl rfl rfl rfl rfl) (fun _ => .quiet rfl rfl rfl rfl rfl)
  case reset m => exact storeStep_resetEvent m s
  case setHold a =>
    have h : StoreStep s (setIf (decide (1 ≤ a.p0.toNat ∧ a.p0.toNat ≤ 6)) (writeHold a.p0) (respond a s)) :=
      (StoreStep.quiet (s := s) (t := respond a s) rfl rfl rfl rfl rfl).trans (.ite (fun _ => storeStep_writeHold _ _) (fun _ => .refl _))
    exact h.trans (.quiet rfl rfl rfl rfl rfl)
  case setVelthr a =>
    have h : StoreStep s (setIf (decide (a.p0.toNat ≤ 127)) (writeVelThreshold a.p0) (respond a s)) :=
      (StoreStep.quiet (s := s) (t := respond a s) rfl rfl rfl rfl rfl).trans
        (.ite (fun _ => storeStep_writeVelThreshold _ _) (fun _ => .refl _))
    exact h.trans (.quiet rfl rfl rfl rfl rfl)
  case setSwap a =>
    have h : StoreStep s (writeSwapNote a.p0 (respond a s)) :=
      (StoreStep.quiet (s := s) (t := respond a s) rfl rfl rfl rfl rfl).trans (storeStep_writeSwapNote _ _)
    exact h.trans (.quiet rfl rfl rfl rfl rfl)
  case setHhthr a =>
    have h : StoreStep s (setIf (decide (a.p0.toNat ≤ 127)) (writeHhThreshold a.p0) (respond a s)) :=
      (StoreStep.quiet (s := s) (t := respond a s) rfl rfl rfl rfl rfl).trans
        (.ite (fun _ => storeStep_writeHhThreshold _ _) (fun _ => .refl _))
    exact h.trans (.quiet rfl rfl rfl rfl rfl)
  case setBank a =>
    have h : StoreStep s (setIf (decide (a.p0.toNat ≤ 1)) (selectBank a.p0.toNat) (respond a s)) :=
      (StoreStep.quiet (s := s) (t := respond a s) rfl rfl rfl rfl rfl).trans (.ite (fun _ => storeStep_selectBank _ _) (fun _ => .refl _))
    exact h.trans (.quiet rfl rfl rfl rfl rfl)
  case getMap a => exact .ite (fun _ => .quiet rfl rfl rfl rfl rfl) (fun _ => .quiet rfl rfl rfl rfl rfl)
  case readLine a => exact .ite (fun _ => .quiet rfl rfl rfl rfl rfl) (fun _ => .quiet rfl rfl rfl rfl rfl)
  case forceOutput a => exact .ite (fun _ => .quiet rfl rfl rfl rfl rfl) (fun _ => .quiet rfl rfl rfl rfl rfl)
  case setMap a =>
    have h : StoreStep s (mapSet a.p0.toNat a.p1.toNat a.p2 (respond a s)) :=
      (StoreStep.quiet (s := s) (t := respond a s) rfl rfl rfl rfl rfl).trans (storeStep_mapSet _ _ _ _)
    exact .ite (fun _ => h.trans (.quiet rfl rfl rfl rfl rfl)) (fun _ => .quiet rfl rfl rfl rfl rfl)
  all_goals exact .quiet rfl rfl rfl rfl rfl

end Sys2Proof.Machine
end

