-- ==== Sys2Proof/Laws/Bytes.lean ====
section
/-! SUPPORT. What a BYTE event can do: the status bytes at once, and the three cases of a velocity byte (R141). -/
namespace Sys2Proof.Machine

/-- A byte with the high bit set is a status byte in every parser state (R91). -/
theorem decodeByte_of_le {b : Byte} (h : 128 ≤ b.toNat) (m : MState) : decodeByte m b = decodeStatus b := by
  have : b.getLsbD 7 = true := by
    rw [← BitVec.msb_eq_getLsbD_last b, BitVec.msb_eq_decide]; simpa using h
  rw [decodeByte, if_pos this]

/-- Any other byte is a data byte, selected by the parser state (R139). -/
theorem decodeByte_of_not_le {b : Byte} (h : ¬ 128 ≤ b.toNat) (m : MState) : decodeByte m b = decodeData m (b.setWidth 7) := by
  have : b.getLsbD 7 = false := by
    rw [← BitVec.msb_eq_getLsbD_last b, BitVec.msb_eq_decide]; simpa using h
  rw [decodeByte, this]; rfl

/-- What an instruction of a status byte does, whichever it is: it writes LAST_TYPE, SYSEX_LEN and EVENTS at most, and the given
parser state. -/
abbrev StatusEffect (i : Instr) (m : MState) : Prop :=
  ∀ s, ∃ type len, effect i s =
    { s with parser := { s.parser with mstate := m, events := [], lastType := type, sysexLen := len } }

/-- The next state of an instruction of a status byte. -/
def statusRow : Instr → Option MState
  | .noteOff _ => some .waitingForNoteOff
  | .noteOn _ => some .waitingForNoteOn
  | .polyAftertouch _ => some .waitingForData1Of2
  | .controlChange _ => some .waitingForCCData1
  | .programChange _ => some .waitingForData1Only
  | .channelAftertouch _ => some .waitingForData1Only
  | .pitchBend _ => some .waitingForData1Of2
  | .sysexStart => some .collectSysExData
  | .quarterFrame => some .waitingForData1Only
  | .songPosition => some .waitingForData1Of2
  | .songSelect => some .waitingForData1Only
  | .sysexEnd => some .waitingForStatus
  | .timingClock => some .waitingForStatus
  | .activeSensing => some .waitingForStatus
  | .undefF4 => some .waitingForStatus
  | .undefF5 => some .waitingForStatus
  | .tuneRequest => some .waitingForStatus
  | .undefF9 => some .waitingForStatus
  | .midiStart => some .waitingForStatus
  | .midiContinue => some .waitingForStatus
  | .midiStop => some .waitingForStatus
  | .undefFD => some .waitingForStatus
  | .systemReset => some .waitingForStatus
  | _ => none

/-- An instruction of a status byte only writes the parser. -/
theorem statusEffect_of_row {i : Instr} {m : MState} (h : statusRow i = some m) : StatusEffect i m := by
  cases i <;> first | (cases h; done) | (cases h; exact fun s => ⟨_, _, rfl⟩)

/-- Every status byte has R156's next state. -/
theorem statusRow_decodeStatus : ∀ b : Byte, 128 ≤ b.toNat → statusRow (decodeStatus b) = some (statusNext b) := by decide

/-- Every status byte only writes the parser, and its next state is R156's. -/
theorem statusEffect (b : Byte) (h : 128 ≤ b.toNat) : StatusEffect (decodeStatus b) (statusNext b) :=
  statusEffect_of_row (statusRow_decodeStatus b h)

/-- A velocity byte 0 is a note-off (R141). -/
theorem completeNoteOn_zero (s : State) :
    completeNoteOn 0 s = emit (.noteOff s.parser.pendingNote) (invalidateOn (recordOff s.parser.pendingNote s)) := rfl

/-- What makes a velocity qualify (R17). -/
theorem qualifies_iff (v : Data7) (thr : Byte) : qualifies v thr = true ↔ v ≠ 0 ∧ thr.toNat ≤ v.toNat := by
  have : v ≠ 0 ↔ 0 < v.toNat := by rw [ne_eq, BitVec.toNat_eq]; simp
  simp only [qualifies, Bool.and_eq_true, decide_eq_true_eq, this]

/-- A qualifying velocity byte is recorded, emitted and routed (R141). -/
theorem completeNoteOn_of_qualifies {v : Data7} {s : State} (h0 : v ≠ 0) (h : s.config.velThreshold.toNat ≤ v.toNat) :
    completeNoteOn v s =
      routeNoteOn s.parser.pendingNote v (emit (.noteOn s.parser.pendingNote v) (recordOn s.parser.pendingNote v s)) := by
  simp only [completeNoteOn]
  rw [if_neg h0, if_pos ((qualifies_iff _ _).2 ⟨h0, h⟩)]

/-- A velocity byte below the threshold changes nothing (R141). -/
theorem completeNoteOn_of_lt {v : Data7} {s : State} (h0 : v ≠ 0) (h : v.toNat < s.config.velThreshold.toNat) :
    completeNoteOn v s = s := by
  simp only [completeNoteOn]
  rw [if_neg h0, if_neg]
  rw [qualifies_iff]; omega

end Sys2Proof.Machine
end

