-- ==== Sys2Proof/Laws/Decode.lean ====
section
/-! SUPPORT. The opcode map of the host protocol (R104): its numbers are distinct, so a code names one operation. -/
namespace Sys2Proof

theorem HostOp.mem_all (k : HostOp) : k ∈ HostOp.all := by cases k <;> decide

/-- The opcode numbers, operation by operation. -/
theorem codes_eq (o : Opcodes) : HostOp.all.map o.code = o.toList := rfl

/-- The code of an operation names it. -/
theorem opcodeOf_code {c : Cfg} (h : c.opcodes.toList.Nodup) (k : HostOp) : opcodeOf c (c.opcodes.code k) = some k := by
  rw [← codes_eq] at h
  unfold opcodeOf
  cases hf : HostOp.all.find? (fun k' => c.opcodes.code k' == c.opcodes.code k) with
  | none =>
    rw [List.find?_eq_none] at hf
    exact absurd (hf k k.mem_all) (by simp)
  | some k' =>
    have e := List.find?_some hf
    rw [List.inj_on_of_nodup_map h k'.mem_all k.mem_all (by simpa using e)]

/-- The operation a code names has that code. -/
theorem code_of_opcodeOf {c : Cfg} {op : Byte} {k : HostOp} (h : opcodeOf c op = some k) : c.opcodes.code k = op := by
  simpa using List.find?_some h

/-- A code names no operation exactly when it is not in the opcode map. -/
theorem opcodeOf_none_iff {c : Cfg} {op : Byte} : opcodeOf c op = none ↔ op ∉ c.opcodes.toList := by
  rw [← codes_eq]
  simp only [opcodeOf, List.find?_eq_none, List.mem_map, not_exists, not_and, beq_iff_eq]

end Sys2Proof
end

