-- ==== Sys2Proof/Laws/PerInstr.lean ====
section
/-! SUPPORT. The per-instruction family TableRow: the encoder gives every instruction the bits its row of spec/opcode_table.json
fixes, under REFCFG. -/
namespace Sys2Proof.Laws.TableRow

/-- The bits a row fixes: `match` and `mask` of spec/opcode_table.json, over the byte of a BYTE row and over req[0]:req[1] of a
HOSTREQ row (prefix in the high byte). -/
structure Row where
  pattern : BitVec 16
  mask : BitVec 16
deriving DecidableEq, Repr

/-- The row of each instruction. -/
def row : Instr → Row
  | .noteOff _ => ⟨0x80, 0xF0⟩
  | .noteOn _ => ⟨0x90, 0xF0⟩
  | .polyAftertouch _ => ⟨0xA0, 0xF0⟩
  | .controlChange _ => ⟨0xB0, 0xF0⟩
  | .programChange _ => ⟨0xC0, 0xF0⟩
  | .channelAftertouch _ => ⟨0xD0, 0xF0⟩
  | .pitchBend _ => ⟨0xE0, 0xF0⟩
  | .sysexStart => ⟨0xF0, 0xFF⟩
  | .quarterFrame => ⟨0xF1, 0xFF⟩
  | .songPosition => ⟨0xF2, 0xFF⟩
  | .songSelect => ⟨0xF3, 0xFF⟩
  | .sysexEnd => ⟨0xF7, 0xFF⟩
  | .timingClock => ⟨0xF8, 0xFF⟩
  | .activeSensing => ⟨0xFE, 0xFF⟩
  | .undefF4 => ⟨0xF4, 0xFF⟩
  | .undefF5 => ⟨0xF5, 0xFF⟩
  | .tuneRequest => ⟨0xF6, 0xFF⟩
  | .undefF9 => ⟨0xF9, 0xFF⟩
  | .midiStart => ⟨0xFA, 0xFF⟩
  | .midiContinue => ⟨0xFB, 0xFF⟩
  | .midiStop => ⟨0xFC, 0xFF⟩
  | .undefFD => ⟨0xFD, 0xFF⟩
  | .systemReset => ⟨0xFF, 0xFF⟩
  | .dataWaitingForStatus _ => ⟨0x0, 0x80⟩
  | .dataWaitingForNoteOn _ => ⟨0x0, 0x80⟩
  | .dataWaitingForOnVelocity _ => ⟨0x0, 0x80⟩
  | .dataWaitingForNoteOff _ => ⟨0x0, 0x80⟩
  | .dataWaitingForOffVelocity _ => ⟨0x0, 0x80⟩
  | .dataWaitingForCCData1 _ => ⟨0x0, 0x80⟩
  | .dataWaitingForCCData2 _ => ⟨0x0, 0x80⟩
  | .dataWaitingForPedalData _ => ⟨0x0, 0x80⟩
  | .dataWaitingForData1Only _ => ⟨0x0, 0x80⟩
  | .dataWaitingForData1Of2 _ => ⟨0x0, 0x80⟩
  | .dataWaitingForData2 _ => ⟨0x0, 0x80⟩
  | .dataCollectSysExData _ => ⟨0x0, 0x80⟩
  | .getVersion _ => ⟨0xA500, 0xFFFF⟩
  | .getFeatures _ => ⟨0xA501, 0xFFFF⟩
  | .enterCmdMode _ => ⟨0xA502, 0xFFFF⟩
  | .exitCmdMode _ => ⟨0xA503, 0xFFFF⟩
  | .getHold _ => ⟨0xA510, 0xFFFF⟩
  | .setHold _ => ⟨0xA511, 0xFFFF⟩
  | .getVelthr _ => ⟨0xA512, 0xFFFF⟩
  | .setVelthr _ => ⟨0xA513, 0xFFFF⟩
  | .getSwap _ => ⟨0xA514, 0xFFFF⟩
  | .setSwap _ => ⟨0xA515, 0xFFFF⟩
  | .getHhthr _ => ⟨0xA516, 0xFFFF⟩
  | .setHhthr _ => ⟨0xA517, 0xFFFF⟩
  | .getBank _ => ⟨0xA518, 0xFFFF⟩
  | .setBank _ => ⟨0xA519, 0xFFFF⟩
  | .getMap _ => ⟨0xA520, 0xFFFF⟩
  | .setMap _ => ⟨0xA521, 0xFFFF⟩
  | .forceOutput _ => ⟨0xA530, 0xFFFF⟩
  | .readLine _ => ⟨0xA531, 0xFFFF⟩
  | .hostUnknownOpcode _ _ => ⟨0xA500, 0xFF00⟩
  | .hostInvalidPrefix _ _ _ => ⟨0x0, 0x0⟩
  | .tick _ => ⟨0x0, 0x0⟩
  | .linkErr => ⟨0x0, 0x0⟩
  | .reset _ => ⟨0x0, 0x0⟩

/-- The bits of an event that the table counts: the byte, or the prefix and the opcode; the other events have none. -/
def head : Event → BitVec 16
  | .byte b => b.setWidth 16
  | .hostreq (pfx :: op :: _) => pfx ++ op
  | .hostreq [_] => 0
  | .hostreq [] => 0
  | .tick _ => 0
  | .linkerr => 0
  | .reset _ => 0

/-- The encoded event of a well-formed instruction carries its row's bits. -/
def Statement (i : Instr) : Prop :=
  WellFormed refcfg i = true → head (encode refcfg i) &&& (row i).mask = (row i).pattern

/-- A status byte's high nibble is its row's. -/
theorem status (t n : Nibble) : (statusByte t n).setWidth 16 &&& (0xF0 : BitVec 16) = t.setWidth 16 <<< 4 := by
  revert t n; decide

/-- A data byte's bit 7 is clear. -/
theorem data (v : Data7) : (dataByte v).setWidth 16 &&& (0x80 : BitVec 16) = 0 := by revert v; decide

/-- A named operation's prefix and opcode are its row's. -/
theorem request (k : HostOp) (a : HostArgs) (p : BitVec 16) (h : ((0xA5 : Byte) ++ refOpcodes.code k : BitVec 16) &&& 0xFFFF = p) :
    head (hostRequest refcfg k a) &&& 0xFFFF = p := h

/-- An opcode byte does not reach the prefix byte. -/
theorem prefixBits (op : Byte) : ((0xA5 : Byte) ++ op : BitVec 16) &&& (0xFF00 : BitVec 16) = 0xA500 := by revert op; decide

theorem noteOff (n : Nibble) : Statement (.noteOff n) := fun _ => status _ n
theorem noteOn (n : Nibble) : Statement (.noteOn n) := fun _ => status _ n
theorem polyAftertouch (n : Nibble) : Statement (.polyAftertouch n) := fun _ => status _ n
theorem controlChange (n : Nibble) : Statement (.controlChange n) := fun _ => status _ n
theorem programChange (n : Nibble) : Statement (.programChange n) := fun _ => status _ n
theorem channelAftertouch (n : Nibble) : Statement (.channelAftertouch n) := fun _ => status _ n
theorem pitchBend (n : Nibble) : Statement (.pitchBend n) := fun _ => status _ n
theorem sysexStart : Statement .sysexStart := fun _ => rfl
theorem quarterFrame : Statement .quarterFrame := fun _ => rfl
theorem songPosition : Statement .songPosition := fun _ => rfl
theorem songSelect : Statement .songSelect := fun _ => rfl
theorem sysexEnd : Statement .sysexEnd := fun _ => rfl
theorem timingClock : Statement .timingClock := fun _ => rfl
theorem activeSensing : Statement .activeSensing := fun _ => rfl
theorem undefF4 : Statement .undefF4 := fun _ => rfl
theorem undefF5 : Statement .undefF5 := fun _ => rfl
theorem tuneRequest : Statement .tuneRequest := fun _ => rfl
theorem undefF9 : Statement .undefF9 := fun _ => rfl
theorem midiStart : Statement .midiStart := fun _ => rfl
theorem midiContinue : Statement .midiContinue := fun _ => rfl
theorem midiStop : Statement .midiStop := fun _ => rfl
theorem undefFD : Statement .undefFD := fun _ => rfl
theorem systemReset : Statement .systemReset := fun _ => rfl
theorem dataWaitingForStatus (v : Data7) : Statement (.dataWaitingForStatus v) := fun _ => data v
theorem dataWaitingForNoteOn (v : Data7) : Statement (.dataWaitingForNoteOn v) := fun _ => data v
theorem dataWaitingForOnVelocity (v : Data7) : Statement (.dataWaitingForOnVelocity v) := fun _ => data v
theorem dataWaitingForNoteOff (v : Data7) : Statement (.dataWaitingForNoteOff v) := fun _ => data v
theorem dataWaitingForOffVelocity (v : Data7) : Statement (.dataWaitingForOffVelocity v) := fun _ => data v
theorem dataWaitingForCCData1 (v : Data7) : Statement (.dataWaitingForCCData1 v) := fun _ => data v
theorem dataWaitingForCCData2 (v : Data7) : Statement (.dataWaitingForCCData2 v) := fun _ => data v
theorem dataWaitingForPedalData (v : Data7) : Statement (.dataWaitingForPedalData v) := fun _ => data v
theorem dataWaitingForData1Only (v : Data7) : Statement (.dataWaitingForData1Only v) := fun _ => data v
theorem dataWaitingForData1Of2 (v : Data7) : Statement (.dataWaitingForData1Of2 v) := fun _ => data v
theorem dataWaitingForData2 (v : Data7) : Statement (.dataWaitingForData2 v) := fun _ => data v
theorem dataCollectSysExData (v : Data7) : Statement (.dataCollectSysExData v) := fun _ => data v
theorem getVersion (a : HostArgs) : Statement (.getVersion a) := fun _ => request .getVersion a 0xA500 (by decide)
theorem getFeatures (a : HostArgs) : Statement (.getFeatures a) := fun _ => request .getFeatures a 0xA501 (by decide)
theorem enterCmdMode (a : HostArgs) : Statement (.enterCmdMode a) := fun _ => request .enterCmdMode a 0xA502 (by decide)
theorem exitCmdMode (a : HostArgs) : Statement (.exitCmdMode a) := fun _ => request .exitCmdMode a 0xA503 (by decide)
theorem getHold (a : HostArgs) : Statement (.getHold a) := fun _ => request .getHold a 0xA510 (by decide)
theorem setHold (a : HostArgs) : Statement (.setHold a) := fun _ => request .setHold a 0xA511 (by decide)
theorem getVelthr (a : HostArgs) : Statement (.getVelthr a) := fun _ => request .getVelthr a 0xA512 (by decide)
theorem setVelthr (a : HostArgs) : Statement (.setVelthr a) := fun _ => request .setVelthr a 0xA513 (by decide)
theorem getSwap (a : HostArgs) : Statement (.getSwap a) := fun _ => request .getSwap a 0xA514 (by decide)
theorem setSwap (a : HostArgs) : Statement (.setSwap a) := fun _ => request .setSwap a 0xA515 (by decide)
theorem getHhthr (a : HostArgs) : Statement (.getHhthr a) := fun _ => request .getHhthr a 0xA516 (by decide)
theorem setHhthr (a : HostArgs) : Statement (.setHhthr a) := fun _ => request .setHhthr a 0xA517 (by decide)
theorem getBank (a : HostArgs) : Statement (.getBank a) := fun _ => request .getBank a 0xA518 (by decide)
theorem setBank (a : HostArgs) : Statement (.setBank a) := fun _ => request .setBank a 0xA519 (by decide)
theorem getMap (a : HostArgs) : Statement (.getMap a) := fun _ => request .getMap a 0xA520 (by decide)
theorem setMap (a : HostArgs) : Statement (.setMap a) := fun _ => request .setMap a 0xA521 (by decide)
theorem forceOutput (a : HostArgs) : Statement (.forceOutput a) := fun _ => request .forceOutput a 0xA530 (by decide)
theorem readLine (a : HostArgs) : Statement (.readLine a) := fun _ => request .readLine a 0xA531 (by decide)
theorem hostUnknownOpcode (op : Byte) (a : HostArgs) : Statement (.hostUnknownOpcode op a) := fun _ => prefixBits op
theorem hostInvalidPrefix (pfx op : Byte) (a : HostArgs) : Statement (.hostInvalidPrefix pfx op a) := fun _ => BitVec.and_zero
theorem tick (lines : List Bool) : Statement (.tick lines) := fun _ => BitVec.and_zero
theorem linkErr : Statement .linkErr := fun _ => BitVec.and_zero
theorem reset (store0 : List Byte) : Statement (.reset store0) := fun _ => BitVec.and_zero

end Sys2Proof.Laws.TableRow
end

