-- ==== Sys2Proof/Laws/Scan.lean ====
section
/-! SUPPORT. The scans of a channel's slots in terms of its slot prefix (R17): `addMapping`'s, `lookup`'s, and the channels that
`activateAll` activates. -/
namespace Sys2Proof.Machine

theorem slotPrefix_cons (u b : Byte) (bs : List Byte) :
    slotPrefix u (b :: bs) = if b = u then [] else b :: slotPrefix u bs := by
  by_cases h : b = u <;> simp [slotPrefix, h]

theorem slotPrefix_length_le (u : Byte) (row : List Byte) : (slotPrefix u row).length ≤ row.length :=
  (List.takeWhile_sublist _).length_le

/-- The inner loop of `lookup` finds the notes of the slot prefix. -/
theorem rowHas_iff (u note : Byte) (row : List Byte) : rowHas u note row = true ↔ note ∈ slotPrefix u row := by
  induction row with
  | nil => simp [rowHas, slotPrefix]
  | cons b bs ih =>
    rw [rowHas, slotPrefix_cons]
    split
    · simp
    · split
      · next h => simp [h]
      · next h => simp [ih, Ne.symm h]

/-- What the scan of `addMapping` finds (R174). -/
theorem scanSlots_eq (u note : Byte) (row : List Byte) (i : Nat) :
    scanSlots u note row i =
      if note ∈ slotPrefix u row then .duplicate
      else if (slotPrefix u row).length < row.length then .free (i + (slotPrefix u row).length)
      else .full := by
  induction row generalizing i with
  | nil => simp [scanSlots, slotPrefix]
  | cons b bs ih =>
    rw [scanSlots, slotPrefix_cons]
    split
    · simp
    · split
      · next h => simp [h]
      · next h => simp [ih, Ne.symm h, Nat.add_comm 1, Nat.add_assoc]

/-- `addMapping` on a channel that exists (R174). -/
theorem addMapping_eq {ch : Nat} {s : State} (hc : ch < s.cfg.C) (n v : Data7) :
    addMapping ch n v true s =
      let u := s.cfg.UNASSIGNED
      let row := s.map.getD ch []
      let i := (slotPrefix u row).length
      if zext7 n ∈ slotPrefix u row then (.duplicate, s)
      else if i < row.length then
        (.occupied (i + 1),
          if i + 1 < s.cfg.S then mapSet ch (i + 1) u (mapSet ch i (zext7 n) s) else mapSet ch i (zext7 n) s)
      else (.occupied s.cfg.S, mapSet ch (s.cfg.S - 1) (zext7 n) s) := by
  rw [addMapping, if_neg (by simpa using hc), scanSlots_eq]
  dsimp only
  by_cases h : zext7 n ∈ slotPrefix s.cfg.UNASSIGNED (s.map.getD ch [])
  · simp only [if_pos h]
  · by_cases h' : (slotPrefix s.cfg.UNASSIGNED (s.map.getD ch [])).length < (s.map.getD ch []).length
    · simp only [if_neg h, if_pos h', Nat.zero_add]
    · simp only [if_neg h, if_neg h']

/-- The row behind its slot prefix: the sentinel stands at the end of the prefix unless the channel is full. -/
theorem slotPrefix_getElem (u : Byte) (row : List Byte) (h : (slotPrefix u row).length < row.length) :
    row[(slotPrefix u row).length]? = some u := by
  induction row with
  | nil => simp at h
  | cons b bs ih =>
    rw [slotPrefix_cons] at h ⊢
    split at h
    · next e => simp [e]
    · next e =>
      simp only [e, if_false, List.length_cons, List.getElem?_cons_succ] at h ⊢
      exact ih (by omega)

/-- A free slot takes the note and the next one the sentinel: the prefix grows by the note. -/
theorem slotPrefix_append (u n : Byte) (hn : n ≠ u) (row : List Byte) (h : (slotPrefix u row).length < row.length) :
    slotPrefix u ((row.set (slotPrefix u row).length n).set ((slotPrefix u row).length + 1) u) = slotPrefix u row ++ [n] := by
  induction row with
  | nil => simp at h
  | cons b bs ih =>
    by_cases e : b = u
    · subst e
      simp only [slotPrefix_cons, if_true, List.length_nil, List.set_cons_zero, List.nil_append, Nat.zero_add]
      cases bs with
      | nil => simp [slotPrefix, hn]
      | cons b' bs => simp [slotPrefix, hn]
    · have hp : slotPrefix u (b :: bs) = b :: slotPrefix u bs := by rw [slotPrefix_cons, if_neg e]
      rw [hp] at h ⊢
      simp only [List.length_cons, List.set_cons_succ, slotPrefix_cons, if_neg e, List.cons_append]
      rw [ih (by simpa using h)]

/-- A full channel's last slot takes the note. -/
theorem slotPrefix_full (u n : Byte) (hn : n ≠ u) (row : List Byte) (hr : row ≠ []) (h : (slotPrefix u row).length = row.length) :
    slotPrefix u (row.set (row.length - 1) n) = (slotPrefix u row).dropLast ++ [n] := by
  induction row with
  | nil => exact absurd rfl hr
  | cons b bs ih =>
    by_cases e : b = u
    · simp [slotPrefix_cons, e] at h
    · have hp : slotPrefix u (b :: bs) = b :: slotPrefix u bs := by rw [slotPrefix_cons, if_neg e]
      rw [hp] at h ⊢
      cases bs with
      | nil => simp [slotPrefix, hn]
      | cons b' bs =>
        have ih := ih (by simp) (by simpa using h)
        simp only [List.length_cons, Nat.add_sub_cancel] at ih ⊢
        rw [List.set_cons_succ, slotPrefix_cons, if_neg e, ih]
        cases hq : slotPrefix u (b' :: bs) with
        | nil => rw [hq] at h; simp at h
        | cons x xs => rfl

/-- The outer loop of `lookup`, its channels counted from `k`. -/
theorem lookupFrom_some {u note : Byte} {rows : List (List Byte)} {k ch : Nat} (h : lookupFrom u note rows k = some ch) :
    ∃ j, ch = k + j ∧ note ∈ slotPrefix u (rows.getD j []) ∧ ∀ i < j, note ∉ slotPrefix u (rows.getD i []) := by
  induction rows generalizing k with
  | nil => cases h
  | cons row rows ih =>
    rw [lookupFrom] at h
    split at h
    · next hr => cases h; exact ⟨0, rfl, (rowHas_iff _ _ _).1 hr, by simp⟩
    · next hr =>
      obtain ⟨j, rfl, h1, h2⟩ := ih h
      refine ⟨j + 1, by omega, h1, fun i hi => ?_⟩
      cases i with
      | zero => exact fun c => hr ((rowHas_iff _ _ _).2 c)
      | succ i => exact h2 i (by omega)

theorem lookupFrom_none {u note : Byte} {rows : List (List Byte)} {k : Nat} (h : lookupFrom u note rows k = none) (i : Nat) :
    note ∉ slotPrefix u (rows.getD i []) := by
  induction rows generalizing k i with
  | nil => simp [slotPrefix]
  | cons row rows ih =>
    rw [lookupFrom] at h
    split at h
    · cases h
    · next hr =>
      cases i with
      | zero => exact fun c => hr ((rowHas_iff _ _ _).2 c)
      | succ i => exact ih h i

/-- An answer of `lookup` is at or above the start, holds the note, and no channel before it does (R176). -/
theorem lookup_some {u note : Byte} {m : List (List Byte)} {start ch : Nat} (h : lookup u m note start = some ch) :
    start ≤ ch ∧ note ∈ slotPrefix u (m.getD ch []) ∧ ∀ k, start ≤ k → k < ch → note ∉ slotPrefix u (m.getD k []) := by
  obtain ⟨j, rfl, h1, h2⟩ := lookupFrom_some h
  simp only [List.getD, List.getElem?_drop] at h1 h2 ⊢
  refine ⟨by omega, h1, fun k hk hk' => ?_⟩
  have := h2 (k - start) (by omega)
  rwa [show start + (k - start) = k by omega] at this

/-- Without an answer no channel from the start on holds the note (R176). -/
theorem lookup_none {u note : Byte} {m : List (List Byte)} {start : Nat} (h : lookup u m note start = none) (k : Nat)
    (hk : start ≤ k) : note ∉ slotPrefix u (m.getD k []) := by
  have := lookupFrom_none h (k - start)
  simp only [List.getD, List.getElem?_drop] at this ⊢
  rwa [show start + (k - start) = k by omega] at this

/-- Activating the channels that satisfy nothing. -/
theorem mapIdx_if_false {p : Nat → Prop} [DecidablePred p] {f : Channel → Channel} {chs : List Channel} (h : ∀ ch, ¬ p ch) :
    chs = chs.mapIdx (fun ch x => if p ch then f x else x) := by
  apply List.ext_getElem (by simp)
  intro i h1 h2
  simp [h i]

/-- The loop of ActivateAll activates exactly the channels from the start on whose slot prefix holds the note (R177, R200). -/
theorem activateLoop_eq (u note : Byte) (m : List (List Byte)) (v : Data7) (fuel start : Nat) (chs : List Channel)
    (hf : m.length ≤ start + fuel) :
    activateLoop u m note v fuel (lookup u m note start) chs =
      chs.mapIdx (fun ch x =>
        if start ≤ ch ∧ note ∈ slotPrefix u (m.getD ch []) then { x with trig := true, lastVel := v } else x) := by
  induction fuel generalizing start chs with
  | zero =>
    rw [activateLoop]
    refine mapIdx_if_false (f := fun x => { x with trig := true, lastVel := v }) ?_
    rintro ch ⟨h1, h2⟩
    rw [List.getD, List.getElem?_eq_none (by omega)] at h2
    simp [slotPrefix] at h2
  | succ fuel ih =>
    cases e : lookup u m note start with
    | none =>
      rw [activateLoop]
      · exact mapIdx_if_false (f := fun x => { x with trig := true, lastVel := v }) (fun ch h => lookup_none e ch h.1 h.2)
    | some ch =>
      obtain ⟨h1, h2, h3⟩ := lookup_some e
      rw [activateLoop, ih _ _ (by omega)]
      apply List.ext_getElem (by simp [activate])
      intro i hi hi'
      simp only [List.getElem_mapIdx, activate, List.getElem_modify]
      by_cases hc : ch = i
      · subst hc
        rw [if_neg (by omega), if_pos rfl, if_pos ⟨h1, h2⟩]
      · rw [if_neg hc]
        by_cases hlt : i < ch
        · rw [if_neg (by omega), if_neg]
          rintro ⟨h4, h5⟩; exact h3 _ h4 hlt h5
        · have : (ch + 1 ≤ i) ↔ start ≤ i := by omega
          simp only [this]

/-- ActivateAll activates exactly the channels whose slot prefix holds the note (R177, R200). -/
theorem activateAll_eq (n v : Data7) (s : State) :
    activateAll n v s =
      { s with channels := s.channels.mapIdx (fun ch x =>
          if zext7 n ∈ slotPrefix s.cfg.UNASSIGNED (s.map.getD ch []) then { x with trig := true, lastVel := v } else x) } := by
  rw [activateAll, activateLoop_eq _ _ _ _ _ _ _ (by omega)]
  simp only [Nat.zero_le, true_and]

end Sys2Proof.Machine
end

