-- ==== Sys2Proof/Laws/Ticks.lean ====
section
/-! SUPPORT. What a TICK can do: its fields in terms of the mode step, one pulse, one button, and the mode step's cases. -/
namespace Sys2Proof.Machine

/-! ### The fields of a TICK -/

section
variable (ls : List Bool) (s : State)

/-- The state after steps 1 and 2 of TICK (R240). -/
abbrev afterModeStep : State := modeStep (tickRose ls s) (sampleStep ls s)

@[simp] theorem tickEvent_cfg : (tickEvent ls s).cfg = s.cfg := by simp [tickEvent]
@[simp] theorem tickEvent_parser : (tickEvent ls s).parser = s.parser := by simp [tickEvent]
@[simp] theorem tickEvent_channels : (tickEvent ls s).channels =
    s.channels.mapIdx (fun ch x => countPulse (loadPulse s.cfg (tickEvent ls s).config.holdDuration ch x)) := by simp [tickEvent]
@[simp] theorem tickEvent_buttons : (tickEvent ls s).buttons = stepButtons s.cfg s.buttons ls := by simp [tickEvent]
@[simp] theorem tickEvent_resp : (tickEvent ls s).resp = s.resp := by simp [tickEvent]
@[simp] theorem tickEvent_lineRaw : (tickEvent ls s).lineRaw = ls := by simp [tickEvent]
@[simp] theorem tickEvent_pending : (tickEvent ls s).pending = s.pending := by simp [tickEvent]
@[simp] theorem tickEvent_awaitingReset : (tickEvent ls s).awaitingReset = s.awaitingReset := by simp [tickEvent]
theorem tickEvent_mode : (tickEvent ls s).mode = (afterModeStep ls s).mode := rfl
theorem tickEvent_config : (tickEvent ls s).config = (afterModeStep ls s).config := rfl
theorem tickEvent_map : (tickEvent ls s).map = (afterModeStep ls s).map := rfl
theorem tickEvent_store : (tickEvent ls s).store = (afterModeStep ls s).store := rfl
theorem tickEvent_bus : (tickEvent ls s).bus = (afterModeStep ls s).bus := rfl

end

/-! ### One pulse -/

/-- The count of a nonzero count register goes down by one. -/
theorem countPulse_count (x : Channel) : (countPulse x).count.toNat = x.count.toNat - 1 := by
  have k : ∀ b : Byte, 0 < b.toNat → (b - 1).toNat = b.toNat - 1 := by decide
  unfold countPulse
  split
  · next h => exact k _ h
  · next h => exact (show x.count.toNat = x.count.toNat - 1 by omega)

theorem countPulse_active (x : Channel) : (countPulse x).active = decide (0 < x.count.toNat) := by
  unfold countPulse; split <;> simp [*]

@[simp] theorem countPulse_trig (x : Channel) : (countPulse x).trig = x.trig := by unfold countPulse; split <;> rfl
@[simp] theorem countPulse_lastVel (x : Channel) : (countPulse x).lastVel = x.lastVel := by unfold countPulse; split <;> rfl
@[simp] theorem countPulse_forceOn (x : Channel) : (countPulse x).forceOn = x.forceOn := by unfold countPulse; split <;> rfl

@[simp] theorem loadPulse_trig (c : Cfg) (h : Byte) (ch : Nat) (x : Channel) : (loadPulse c h ch x).trig = false := by
  unfold loadPulse; cases e : x.trig <;> simp [e]
@[simp] theorem loadPulse_lastVel (c : Cfg) (h : Byte) (ch : Nat) (x : Channel) : (loadPulse c h ch x).lastVel = x.lastVel := by
  unfold loadPulse; split <;> rfl
@[simp] theorem loadPulse_forceOn (c : Cfg) (h : Byte) (ch : Nat) (x : Channel) : (loadPulse c h ch x).forceOn = x.forceOn := by
  unfold loadPulse; split <;> rfl
theorem loadPulse_count (c : Cfg) (h : Byte) (ch : Nat) (x : Channel) :
    (loadPulse c h ch x).count = if x.trig then dur c h ch x.lastVel else x.count := by
  unfold loadPulse; split <;> rfl

/-! ### One button -/

/-- The buttons after a TICK, one by one. -/
theorem stepButtons_getElem? {c : Cfg} {bs : List Button} {ls : List Bool} {i : Nat} {b : Button} (h : bs[i]? = some b) :
    (stepButtons c bs ls)[i]? = some (buttonStep c b (ls.getD i false)) := by
  simp [stepButtons, h]

@[simp] theorem stepButtons_length (c : Cfg) (bs : List Button) (ls : List Bool) : (stepButtons c bs ls).length = bs.length := by
  simp [stepButtons]

/-- A raw change (R221). -/
theorem buttonStep_of_ne {c : Cfg} {b : Button} {p : Bool} (h : p ≠ b.pressedRaw) :
    buttonStep c b p =
      { pressedRaw := p, cls := rawChangeClass p b.cls, run := 0, changed := decide (rawChangeClass p b.cls ≠ b.cls) } := by
  rw [buttonStep, if_pos h]

/-- A stable sample (R222). -/
theorem buttonStep_of_eq {c : Cfg} {b : Button} {p : Bool} (h : p = b.pressedRaw) :
    buttonStep c b p =
      { pressedRaw := b.pressedRaw
        cls := stableClass c b.pressedRaw (nextRun c b.run) b.cls
        run := BitVec.ofNat 16 (nextRun c b.run)
        changed := decide (stableClass c b.pressedRaw (nextRun c b.run) b.cls ≠ b.cls) } := by
  rw [buttonStep, if_neg (by simpa using h)]

/-- The run length fits its register (R227). -/
theorem nextRun_toNat {c : Cfg} (h : c.valid = true) (run : BitVec 16) :
    (BitVec.ofNat 16 (nextRun c run)).toNat = min (run.toNat + 1) c.T_SUPER := by
  have := valid_thresholds h
  simp only [nextRun, BitVec.toNat_ofNat]
  omega

/-! ### The mode step -/

/-- In command mode the controller does nothing (R244). -/
theorem modeStep_of_cmd {rose : Nat → BtnClass} {s : State} (h : s.mode.cmdMode = true) : modeStep rose s = s := by
  rw [modeStep, if_pos h]

/-- A transition ends the step (R241). -/
theorem modeStep_of_transition {rose : Nat → BtnClass} {s : State} {m : ModeRegs} (h : s.mode.cmdMode = false)
    (ht : transition s.cfg rose s.mode = some m) : modeStep rose s = { s with mode := m } := by
  rw [modeStep, h]; simp [ht]

/-- Without a transition the actions of the mode run (R241). -/
theorem modeStep_of_none {rose : Nat → BtnClass} {s : State} (h : s.mode.cmdMode = false)
    (ht : transition s.cfg rose s.mode = none) : modeStep rose s = modeActions rose s := by
  rw [modeStep, h]; simp [ht]

/-- A transition keeps command mode, the log switch and the distress indication. -/
theorem transition_keeps {c : Cfg} {rose : Nat → BtnClass} {m m' : ModeRegs} (h : transition c rose m = some m') :
    m'.cmdMode = m.cmdMode ∧ m'.logEn = m.logEn ∧ m'.distress = m.distress := by
  simp only [transition] at h
  split at h
  · cases h; exact ⟨rfl, rfl, rfl⟩
  · split at h
    · cases h; exact ⟨rfl, rfl, rfl⟩
    · split at h
      · split at h <;> cases h <;> exact ⟨rfl, rfl, rfl⟩
      · cases h

/-- The actions of a mode keep the mode, and all mode registers but the selected channel. -/
theorem modeActions_mode (rose : Nat → BtnClass) (s : State) :
    { (modeActions rose s).mode with progCh := s.mode.progCh } = s.mode := by
  have e : ∀ (b : Bool) (t : State), { (onEdge b progChUp t).mode with progCh := s.mode.progCh } =
      { t.mode with progCh := s.mode.progCh } := by intro b t; cases b <;> rfl
  have e' : ∀ (b : Bool) (t : State), { (onEdge b progChDown t).mode with progCh := s.mode.progCh } =
      { t.mode with progCh := s.mode.progCh } := by intro b t; cases b <;> rfl
  unfold modeActions
  split
  · simp
  · simp only [mapActions, onEdge_restoreActive_mode, onEdge_clearSelected_mode, onEdge_selectBank_mode, e, e']
  · simp
  · simp

@[simp] theorem modeStep_cmdMode (rose : Nat → BtnClass) (s : State) : (modeStep rose s).mode.cmdMode = s.mode.cmdMode := by
  rw [modeStep]
  split
  · rfl
  · split
    · next h => exact (transition_keeps h).1
    · exact (congrArg ModeRegs.cmdMode (modeActions_mode rose s) :)

@[simp] theorem modeStep_logEn (rose : Nat → BtnClass) (s : State) : (modeStep rose s).mode.logEn = s.mode.logEn := by
  rw [modeStep]
  split
  · rfl
  · split
    · next h => exact (transition_keeps h).2.1
    · exact (congrArg ModeRegs.logEn (modeActions_mode rose s) :)

@[simp] theorem modeStep_distress (rose : Nat → BtnClass) (s : State) : (modeStep rose s).mode.distress = s.mode.distress := by
  rw [modeStep]
  split
  · rfl
  · split
    · next h => exact (transition_keeps h).2.2
    · exact (congrArg ModeRegs.distress (modeActions_mode rose s) :)

/-- In Play only the toggle button's Held edge makes a transition (R242). -/
theorem transition_play_of_not_held {c : Cfg} {rose : Nat → BtnClass} {m : ModeRegs} (hm : m.mode = .play)
    (h : (rose c.BTN_MODE).held = false) : transition c rose m = none := by
  simp [transition, h, hm]

/-- Without a Held edge of the toggle and the cycle button there is no transition in any mode (R242). -/
theorem transition_of_not_held {c : Cfg} {rose : Nat → BtnClass} {m : ModeRegs} (h : (rose c.BTN_MODE).held = false)
    (h' : (rose c.BTN_CYCLE).held = false) : transition c rose m = none := by
  simp [transition, h, h']

/-! ### The actions of ProgramMap -/

/-- Up and Down, and nothing else (R250). -/
theorem progCh_upDown {s : State} (hv : s.cfg.valid = true) (u d : Bool) :
    let up := if u then min (s.mode.progCh.toNat + 1) (s.cfg.C - 1) else s.mode.progCh.toNat
    onEdge d progChDown (onEdge u progChUp s) =
      { s with mode := { s.mode with progCh := BitVec.ofNat 7 (if d then up - 1 else up) } } := by
  have hC := valid_sizes hv
  have hp := s.mode.progCh.isLt
  cases u <;> cases d <;> simp [onEdge, progChUp, progChDown, chanUp, chanDown]
  congr 3; omega

/-- Left and Right: which bank is active, what the cache holds, and the store calls' writes (R252). -/
theorem selectBank_leftRight {s : State} (hv : s.cfg.valid = true) (hs : s.store.wf = true) (l r : Bool) :
    let b := if r then 1 else if l then 0 else bankNum s.config.activeBank
    let t := onEdge r (selectBank 1) (onEdge l (selectBank 0) s)
    t.cfg = s.cfg ∧ t.mode = s.mode ∧ t.config = { s.config with activeBank := BitVec.ofNat 1 b } ∧
    t.map = (if l || r then loadBank s.cfg s.store b else s.map) ∧
    storesOf t.bus = storesOf s.bus ++ ((if l then [(s.cfg.ADDR_BANK, 0)] else []) ++ (if r then [(s.cfg.ADDR_BANK, 1)] else [])) ∧
    t.store.wf = true ∧
    ∀ a, t.store.read a = if (l || r) = true ∧ a = s.cfg.ADDR_BANK then BitVec.ofNat 8 b else s.store.read a := by
  have keep : BitVec.ofNat 1 (bankNum s.config.activeBank) = s.config.activeBank := by
    generalize s.config.activeBank = q; revert q; decide
  have reload : ∀ v, loadBank s.cfg (s.store.write s.cfg.ADDR_BANK v) 1 = loadBank s.cfg s.store 1 :=
    loadBank_write_addr hv (by simp [Cfg.addrs]) 1
  cases l <;> cases r <;>
    simp only [onEdge, selectBank_of_le (b := 0) (by omega), selectBank_of_le (b := 1) (by omega), if_true, if_false,
      Bool.false_eq_true]
  · exact ⟨trivial, trivial, by rw [keep], by simp, by simp, hs, by simp⟩
  · exact ⟨trivial, trivial, trivial, by simp, by simp [-List.map_flatten], wf_write hs _ _, fun a => by rw [read_write hs]; simp⟩
  · exact ⟨trivial, trivial, trivial, by simp, by simp [-List.map_flatten], wf_write hs _ _, fun a => by rw [read_write hs]; simp⟩
  · refine ⟨trivial, trivial, trivial, by simp [reload], by simp [-List.map_flatten], wf_write (wf_write hs _ _) _ _, fun a => ?_⟩
    rw [read_write (wf_write hs _ _), read_write hs]
    by_cases e : a = s.cfg.ADDR_BANK <;> simp [e]

end Sys2Proof.Machine
end

