-- ==== Sys2Proof/Tests/Slice0.lean ====
section
/-! SUPPORT. The model's own tests: the checks of WellFormed, the decoding of every row from a word written out from its
encoding, single events with the results that spec/95_test_vectors.md gives, and a witness for the hypotheses of every statement. -/
namespace Sys2Proof.Tests
open Sys2Proof.Machine

/- Each test is one kernel evaluation; run one at a time they need one thread's memory. -/
set_option Elab.async false

/-! ### Helpers -/

/-- S0 of 95_test_vectors.md section 2. -/
def base : State := State.reset

/-- The 72 bytes of the `blank` store. -/
def blankStore : List Byte := List.replicate 72 0xFF

/-- The asserted lines of a TICK. -/
def on (is : List Nat) : List Bool := (List.range 10).map (fun i => is.contains i)

/-- An instruction answers a next state. -/
def completes (i : Instr) (s : State) : Bool :=
  match exec i s with
  | .next _ => true
  | .fault _ => false
  | .refused _ => false

/-- The next state an instruction answers. -/
def run (i : Instr) (s : State) : State :=
  match exec i s with
  | .next t => t
  | .fault _ => s
  | .refused _ => s

theorem ran {i : Instr} {s : State} (h : completes i s = true) : exec i s = .next (run i s) := by
  unfold completes at h
  unfold run
  split at h
  · next e => simp [e]
  · cases h
  · cases h

/-- The state of the parser after a Note-On status and a note. -/
def noteOnPending (n : Data7) (s : State) : State :=
  { s with parser := { s.parser with mstate := .waitingForOnVelocity, pendingNote := n, lastType := 0x90 } }

/-- A state in another mode. -/
def inMode (m : Mode) (ch : BitVec 7) (s : State) : State :=
  { s with mode := { s.mode with mode := m, progValid := decide (m ≠ .play), progCh := ch } }

/-- A state in command mode. -/
def inCommandMode (s : State) : State := { s with mode := { s.mode with cmdMode := true } }

/-- Button `i` pressed with the flags and the run length given. -/
def pressing (i : Nat) (k : BtnClass) (r : BitVec 16) (s : State) : State :=
  { s with
    buttons := s.buttons.set i { pressedRaw := true, cls := k, run := r, changed := false }
    lineRaw := s.lineRaw.set i true }

/-- Button `i` one stable sample before its Pressed edge. -/
def beforePressed (i : Nat) (s : State) : State := pressing i {} 1 s

/-- Button `i` one stable sample before its Held edge. -/
def beforeHeld (i : Nat) (s : State) : State := pressing i { pressed := true } 3 s

/-- Button `i` one stable sample before its HeldLong edge. -/
def beforeLong (i : Nat) (s : State) : State := pressing i { pressed := true, held := true } 5 s

/-- Button `i` one stable sample before its HeldSuperLong edge. -/
def beforeSuper (i : Nat) (s : State) : State := pressing i { pressed := true, held := true, heldLong := true } 7 s

/-- The states of a run of ticks on the same lines. -/
def ticking (ls : List Bool) (s : State) : Nat → State
  | 0 => s
  | j + 1 => run (.tick ls) (ticking ls s j)

/-- The bytes of a request and what they decode to. -/
def args : HostArgs := ⟨7, 1, 2, 3, 4, 5⟩

/-- The reference configuration with a swap-gesture button. -/
def swapCfg : Cfg := { refcfg with BTN_SWAP := some 7 }

/-! ### WellFormed refuses an ill-formed term of each kind it checks -/

theorem test_wellFormed_tick_length : WellFormed refcfg (.tick (List.replicate 9 false)) = false := by decide
theorem test_wellFormed_tick : WellFormed refcfg (.tick (List.replicate 10 false)) = true := by decide
theorem test_wellFormed_reset_length : WellFormed refcfg (.reset (List.replicate 71 0)) = false := by decide +kernel
theorem test_wellFormed_reset : WellFormed refcfg (.reset (List.replicate 72 0)) = true := by decide +kernel
theorem test_wellFormed_unknown_opcode : WellFormed refcfg (.hostUnknownOpcode 0x21 args) = false := by decide
theorem test_wellFormed_invalid_prefix : WellFormed refcfg (.hostInvalidPrefix 0xA5 0x00 args) = false := by decide

/-! ### Decoding: words written out from R91 to R93, R100, R104, R112 -/

/-- The seven channel rows, `tttt nnnn` (R93). -/
theorem test_decode_channel_status :
    decodeByte .collectSysExData 0b10000000 = .noteOff 0 ∧ decodeByte .waitingForStatus 0b10011001 = .noteOn 9 ∧
    decodeByte .waitingForNoteOn 0b10100010 = .polyAftertouch 2 ∧ decodeByte .waitingForData2 0b10110011 = .controlChange 3 ∧
    decodeByte .waitingForStatus 0b11000100 = .programChange 4 ∧
    decodeByte .waitingForStatus 0b11010101 = .channelAftertouch 5 ∧ decodeByte .waitingForStatus 0b11101111 = .pitchBend 15 := by
  decide

/-- The sixteen system rows, `1111 nnnn` (R93). -/
theorem test_decode_system_status :
    decodeByte .waitingForStatus 0b11110000 = .sysexStart ∧ decodeByte .waitingForStatus 0b11110001 = .quarterFrame ∧
    decodeByte .waitingForStatus 0b11110010 = .songPosition ∧ decodeByte .waitingForStatus 0b11110011 = .songSelect ∧
    decodeByte .waitingForStatus 0b11110100 = .undefF4 ∧ decodeByte .waitingForStatus 0b11110101 = .undefF5 ∧
    decodeByte .waitingForStatus 0b11110110 = .tuneRequest ∧ decodeByte .collectSysExData 0b11110111 = .sysexEnd ∧
    decodeByte .waitingForOnVelocity 0b11111000 = .timingClock ∧ decodeByte .waitingForStatus 0b11111001 = .undefF9 ∧
    decodeByte .waitingForStatus 0b11111010 = .midiStart ∧ decodeByte .waitingForStatus 0b11111011 = .midiContinue ∧
    decodeByte .waitingForStatus 0b11111100 = .midiStop ∧ decodeByte .waitingForStatus 0b11111101 = .undefFD ∧
    decodeByte .waitingForStatus 0b11111110 = .activeSensing ∧ decodeByte .waitingForStatus 0b11111111 = .systemReset := by
  decide

/-- The twelve data rows, `0vvv vvvv`, selected by the parser state (R92, R139). -/
theorem test_decode_data :
    decodeByte .waitingForStatus 0b00100110 = .dataWaitingForStatus 38 ∧
    decodeByte .waitingForNoteOn 0b00000000 = .dataWaitingForNoteOn 0 ∧
    decodeByte .waitingForOnVelocity 0b01111111 = .dataWaitingForOnVelocity 127 ∧
    decodeByte .waitingForNoteOff 0b01000000 = .dataWaitingForNoteOff 64 ∧
    decodeByte .waitingForOffVelocity 0b00000001 = .dataWaitingForOffVelocity 1 ∧
    decodeByte .waitingForCCData1 0b00000100 = .dataWaitingForCCData1 4 ∧
    decodeByte .waitingForCCData2 0b01100100 = .dataWaitingForCCData2 100 ∧
    decodeByte .waitingForPedalData 0b01010000 = .dataWaitingForPedalData 80 ∧
    decodeByte .waitingForData1Only 0b00000101 = .dataWaitingForData1Only 5 ∧
    decodeByte .waitingForData1Of2 0b00000010 = .dataWaitingForData1Of2 2 ∧
    decodeByte .waitingForData2 0b00001001 = .dataWaitingForData2 9 ∧
    decodeByte .collectSysExData 0b01111110 = .dataCollectSysExData 0x7E := by
  decide

/-- The named operations, `A5 <opcode> <seq> <p0> .. <p4>` (R100, R104), the unknown opcode and the invalid prefix. -/
theorem test_decode_requests :
    decodeRequest refcfg 0xA5 0x00 args = .getVersion args ∧ decodeRequest refcfg 0xA5 0x01 args = .getFeatures args ∧
    decodeRequest refcfg 0xA5 0x02 args = .enterCmdMode args ∧ decodeRequest refcfg 0xA5 0x03 args = .exitCmdMode args ∧
    decodeRequest refcfg 0xA5 0x10 args = .getHold args ∧ decodeRequest refcfg 0xA5 0x11 args = .setHold args ∧
    decodeRequest refcfg 0xA5 0x12 args = .getVelthr args ∧ decodeRequest refcfg 0xA5 0x13 args = .setVelthr args ∧
    decodeRequest refcfg 0xA5 0x14 args = .getSwap args ∧ decodeRequest refcfg 0xA5 0x15 args = .setSwap args ∧
    decodeRequest refcfg 0xA5 0x16 args = .getHhthr args ∧ decodeRequest refcfg 0xA5 0x17 args = .setHhthr args ∧
    decodeRequest refcfg 0xA5 0x18 args = .getBank args ∧ decodeRequest refcfg 0xA5 0x19 args = .setBank args ∧
    decodeRequest refcfg 0xA5 0x20 args = .getMap args ∧ decodeRequest refcfg 0xA5 0x21 args = .setMap args ∧
    decodeRequest refcfg 0xA5 0x30 args = .forceOutput args ∧ decodeRequest refcfg 0xA5 0x31 args = .readLine args ∧
    decodeRequest refcfg 0xA5 0x7F args = .hostUnknownOpcode 0x7F args ∧
    decodeRequest refcfg 0x5A 0x00 args = .hostInvalidPrefix 0x5A 0x00 args := by
  decide

/-- The bytes of a request in their order, and the events without an opcode (R100, R112, R360). -/
theorem test_decode_events :
    decode refcfg .waitingForStatus (.hostreq [0xA5, 0x21, 7, 1, 2, 3, 4, 5]) = .ok (.setMap args) ∧
    decode refcfg .waitingForStatus (.hostreq [0xA5, 0x21, 7, 1, 2, 3, 4]) = .error .requestLength ∧
    decode refcfg .waitingForStatus (.tick (on [0, 9])) = .ok (.tick (on [0, 9])) ∧
    decode refcfg .waitingForStatus (.tick []) = .error .tickLineCount ∧
    decode refcfg .waitingForStatus .linkerr = .ok .linkErr := by
  refine ⟨rfl, rfl, rfl, rfl, rfl⟩

theorem test_decode_reset :
    decode refcfg .waitingForStatus (.reset blankStore) = .ok (.reset blankStore) ∧
    decode refcfg .waitingForStatus (.reset []) = .error .storeImageLength := ⟨rfl, rfl⟩

/-- Words of the opcode table by its own bit numbering. -/
theorem test_decode_table_words :
    decodeTableWord 8 0x90 = some (.noteOn 0) ∧ decodeTableWord 8 0xFF = some .systemReset ∧
    decodeTableWord 16 0xA521 = some (.setMap ⟨0, 0, 0, 0, 0, 0⟩) ∧
    decodeTableWord 16 0xA57F = some (.hostUnknownOpcode 0x7F ⟨0, 0, 0, 0, 0, 0⟩) ∧
    decodeTableWord 16 0x0000 = some (.hostInvalidPrefix 0 0 ⟨0, 0, 0, 0, 0, 0⟩) ∧
    decodeTableWord 0 0 = some .linkErr := by decide +kernel

/-- The word is the next event, and the step runs it. -/
theorem test_step_runs_fetch_word :
    (match step (base.withFetchWord 16 0xA500) with
     | .next t => t.resp
     | .fault _ => {}
     | .refused _ => {}) = ⟨1, 0, 0⟩ := by decide +kernel

/-! ### Single events of spec/95_test_vectors.md -/

/-- P8-1: `NOTEON 38 100`, its third byte. -/
theorem test_noteOn_qualifies :
    let t := run (.dataWaitingForOnVelocity 100) (noteOnPending 38 base)
    t.parser.events = [.noteOn 38 100] ∧ t.channels.map (fun x => x.trig) =
      [true, false, false, false, false, false, false, false] ∧ t.parser.mstate = .waitingForNoteOn := by decide +kernel

/-- P8-1: velocity 15 is below the threshold 16. -/
theorem test_noteOn_below_threshold :
    let t := run (.dataWaitingForOnVelocity 15) (noteOnPending 38 base)
    t.parser.events = [] ∧ t.channels = base.channels ∧ t.parser.onValid = false := by decide +kernel

/-- P8-1: velocity 0 is a note-off. -/
theorem test_noteOn_zero :
    let t := run (.dataWaitingForOnVelocity 0) (noteOnPending 38 base)
    t.parser.events = [.noteOff 38] ∧ t.parser.offValid = true ∧ t.parser.offNote = 38 := by decide +kernel

/-- Section 4.1: the pedal's last byte. -/
theorem test_pedal :
    let t := run (.dataWaitingForPedalData 80) base
    t.parser.pedalPos = 80 ∧ t.parser.events = [.pedal 80] ∧ t.parser.mstate = .waitingForStatus := by decide +kernel

/-- P8-4 and P8-5, the last row of section 4.2's series: a full channel's last slot is overwritten. -/
theorem test_addMapping_full :
    let s := { base with map := base.map.set 2 [50, 52, 53, 54] }
    (addMapping 2 55 1 true s).1 = .occupied 4 ∧ (addMapping 2 55 1 true s).2.map.getD 2 [] = [50, 52, 53, 55] ∧
    (addMapping 2 55 1 true s).2.bus = [.set 19 55] ∧ (addMapping 2 53 1 true s).1 = .duplicate ∧
    (addMapping 8 50 1 true s).1 = .error := by decide +kernel

/-- Section 4.2: the stale note after a clear is erased by the sentinel write. -/
theorem test_addMapping_after_clear :
    let t := clearChannel 0 base
    t.map.getD 0 [] = [0xFF, 40, 0xFF, 0xFF] ∧ lookup 0xFF t.map 40 0 = none ∧
    (addMapping 0 41 1 true t).2.map.getD 0 [] = [41, 0xFF, 0xFF, 0xFF] ∧
    (addMapping 0 41 1 true t).2.bus = [.set 8 0xFF, .set 8 41, .set 9 0xFF] := by decide +kernel

/-- Section 4.2: lookups behind a gap. -/
theorem test_lookup_gap :
    let m := (base.map.set 0 [38, 0xFF, 38, 0xFF]).set 1 [40, 38, 0xFF, 0xFF]
    lookup 0xFF m 38 0 = some 0 ∧ lookup 0xFF m 38 1 = some 1 ∧ lookup 0xFF m 38 2 = none ∧ lookup 0xFF m 40 0 = some 1 := by
  decide +kernel

/-- P8-6: the third stable sample of a press. -/
theorem test_press_confirmed :
    (run (.tick (on [0])) (beforePressed 0 base)).buttons[0]? =
      some { pressedRaw := true, cls := { pressed := true }, run := 2, changed := true } := by decide +kernel

/-- P8-8: the toggle button's Held edge enters ProgramMap, with no store write. -/
theorem test_toggle_enters_map :
    let t := run (.tick (on [5])) (beforeHeld 5 base)
    t.mode.mode = .programMap ∧ t.mode.progValid = true ∧ t.mode.progCh = 0 ∧ t.bus = [] ∧ t.map = base.map := by decide +kernel

/-- Section 4.3: the first tick of a pulse. -/
theorem test_first_tick_of_pulse :
    let t := run (.tick (on [])) (run (.dataWaitingForOnVelocity 100) (noteOnPending 38 base))
    t.channels[0]? = some { active := true, count := 2, lastVel := 100 } ∧ t.report.velOut[0]? = some 100 ∧
    t.report.outActive[0]? = some true := by decide +kernel

/-- R202 under the velocity-derived profile: pedal 30, cymbal 5 + 20*100/127 = 20, pad 100/12 = 8 (R12's integer division). -/
theorem test_velocity_derived_duration :
    let c := { refcfg with DUR_MODE := .velocityDerived }
    dur c 3 4 100 = 30 ∧ dur c 3 5 100 = 20 ∧ dur c 3 0 100 = 8 := by decide +kernel

/-- P8-10: the version, and the complement of a sequence number. -/
theorem test_version_and_unknown_opcode :
    (run (.getVersion ⟨7, 0, 0, 0, 0, 0⟩) base).resp = ⟨1, 0, 7⟩ ∧
    (run (.hostUnknownOpcode 0x7F ⟨7, 0, 0, 0, 0, 0⟩) base).resp = ⟨0, 0, 0⟩ ∧
    (run (.hostUnknownOpcode 0x7F ⟨0, 0, 0, 0, 0, 0⟩) base).resp = ⟨0, 0, 1⟩ := by decide +kernel

/-- P8-11 and section 2: the mismatched marker of the blank store. -/
theorem test_reset_from_blank :
    let t := run (.reset blankStore) { base with awaitingReset := true }
    (storesOf t.bus).length = 70 ∧ (storesOf t.bus).take 6 = [(1, 3), (2, 16), (3, 0), (4, 255), (5, 64), (8, 38)] ∧
    (storesOf t.bus).getLast? = some (0, 7) ∧ t.store.read 37 = 0xFF ∧ t.store.read 40 = 0x3C ∧ t.mode.distress = true := by
  decide +kernel

/-! ### Witnesses: states and operands that meet the hypotheses of each statement -/

theorem witness_ResetStateIsBootFromBlankStore :
    ({ base with awaitingReset := true } : State).cfg = refcfg ∧ ({ base with awaitingReset := true } : State).awaitingReset = true :=
  ⟨rfl, rfl⟩

/-- RegistersAfterReset, and the invalid marker of MismatchedMarkerRestoresAll. -/
theorem witness_RegistersAfterReset : base.cfg.valid = true ∧ blankStore.length = base.cfg.STORE_SIZE := by decide +kernel

/-- MatchingMarkerWritesNothing, at a first and at a later RESET. -/
theorem witness_MatchingMarkerWritesNothing :
    base.cfg.valid = true ∧ (blankStore.set 0 7).length = base.cfg.STORE_SIZE ∧
    bootByte (blankStore.set 0 7) { base with awaitingReset := true } base.cfg.ADDR_VERSION = base.cfg.SCHEMA_VERSION ∧
    bootByte blankStore base base.cfg.ADDR_VERSION = base.cfg.SCHEMA_VERSION := by decide +kernel

theorem witness_MismatchedMarkerRestoresAll :
    StoreOk base ∧
    bootByte blankStore { base with awaitingReset := true } base.cfg.ADDR_VERSION ≠ base.cfg.SCHEMA_VERSION := by decide +kernel

theorem witness_SecondResetClearsDistress :
    base.cfg.valid = true ∧ blankStore.length = base.cfg.STORE_SIZE ∧ StoreOk base ∧
    ∃ t, exec (.reset blankStore) { base with awaitingReset := true } = .next t :=
  ⟨by decide +kernel, by decide +kernel, by decide +kernel, _, ran (by decide +kernel)⟩

/-- LaterResetKeepsOnlyTheStore, for two states with different registers. -/
theorem witness_LaterResetKeepsOnlyTheStore :
    let s' := inMode .programMap 3 (noteOnPending 38 base)
    base ≠ s' ∧ base.awaitingReset = false ∧ s'.awaitingReset = false ∧ base.cfg = s'.cfg ∧ base.store = s'.store ∧
    base.pending = s'.pending := by decide +kernel

/-- SysexPayloadByte: the last free place, and the full buffer. -/
theorem witness_SysexPayloadByte :
    base.parser.sysexBuf.length = base.cfg.SYSEX_CAP ∧
    ({ base with parser := { base.parser with sysexLen := 15 } } : State).parser.sysexLen < base.cfg.SYSEX_CAP ∧
    base.cfg.SYSEX_CAP ≤ ({ base with parser := { base.parser with sysexLen := 16 } } : State).parser.sysexLen := by decide +kernel

theorem witness_ByteNextStateTable : base.cfg.valid = true := by decide +kernel

theorem witness_TickCompletesAndKeeps : swapCfg.valid = true := by decide +kernel

/-- EveryInstructionCompletes, at a write to the last byte of the store. -/
theorem witness_EveryInstructionCompletes :
    base.cfg.valid = true ∧
    (run (.setMap { args with p0 := 7, p1 := 3 }) { base with config := { base.config with activeBank := 1 } }).bus = [.set 71 3] := by
  decide +kernel

/-- ByteEmitsAtMostOneEvent, for a byte that emits. -/
theorem witness_ByteEmitsAtMostOneEvent :
    ∃ t, exec (decodeByte (noteOnPending 38 base).parser.mstate 100) (noteOnPending 38 base) = .next t := ⟨_, ran (by decide +kernel)⟩

/-- ByteWritesOnlyItsRegisters: outside Play, outside ProgramMap with no swap note, and in the two modes that route nothing. -/
theorem witness_ByteWritesOnlyItsRegisters :
    let s := noteOnPending 38 (inMode .programVelocity 0 base)
    (∃ t, exec (decodeByte s.parser.mstate 100) s = .next t) ∧ s.mode.mode ≠ .play ∧ s.mode.mode ≠ .programMap ∧
    s.config.swapNote.toNat ≥ 128 := ⟨⟨_, ran (by decide +kernel)⟩, by decide +kernel, by decide +kernel, by decide +kernel⟩

/-- NoteOnDataBytesWithoutRouting: velocity 0; the last velocity below the threshold; the threshold itself. -/
theorem witness_NoteOnDataBytesWithoutRouting :
    (15 : Data7) ≠ 0 ∧ (15 : Data7).toNat < base.config.velThreshold.toNat ∧ (16 : Data7) ≠ 0 ∧
    base.config.velThreshold.toNat ≤ (16 : Data7).toNat ∧ (inMode .programVelocity 0 base).mode.mode = .programVelocity ∧
    (inMode .programDuration 0 base).mode.mode = .programDuration := by decide +kernel

theorem witness_QualifyingNoteActivatesMappedChannels :
    let s := noteOnPending 38 base
    (16 : Data7) ≠ 0 ∧ s.config.velThreshold.toNat ≤ (16 : Data7).toNat ∧ s.mode.mode = .play ∧
    s.parser.pendingNote.toNat ≠ s.config.swapNote.toNat ∧ Mapped s 0 38 ∧ ¬ Mapped s 1 38 := by decide +kernel

/-- NoteOnSequenceActivates: the three bytes run at the velocities 0, 15, 16 (at the threshold) and 127. -/
theorem witness_NoteOnSequenceActivates :
    let s1 := run (.noteOn 9) base
    let s2 := run (decodeByte s1.parser.mstate (0#1 ++ (38 : Data7))) s1
    exec (.noteOn 9) base = .next s1 ∧ exec (decodeByte s1.parser.mstate (0#1 ++ (38 : Data7))) s1 = .next s2 ∧
    (∃ t, exec (decodeByte s2.parser.mstate (0#1 ++ (0 : Data7))) s2 = .next t) ∧
    (∃ t, exec (decodeByte s2.parser.mstate (0#1 ++ (15 : Data7))) s2 = .next t) ∧
    (∃ t, exec (decodeByte s2.parser.mstate (0#1 ++ (16 : Data7))) s2 = .next t) ∧
    (∃ t, exec (decodeByte s2.parser.mstate (0#1 ++ (127 : Data7))) s2 = .next t) ∧
    base.mode.mode = .play ∧ (38 : Data7).toNat ≠ base.config.swapNote.toNat ∧ base.channels[0]? = some ({} : Channel) :=
  ⟨ran (by decide +kernel), ran (by decide +kernel), ⟨_, ran (by decide +kernel)⟩, ⟨_, ran (by decide +kernel)⟩,
   ⟨_, ran (by decide +kernel)⟩, ⟨_, ran (by decide +kernel)⟩, by decide +kernel, by decide +kernel, by decide +kernel⟩

theorem witness_SwapNoteCyclesBank :
    let s := noteOnPending 38 { base with config := { base.config with swapNote := 38 } }
    s.cfg.valid = true ∧ StoreOk s ∧ (16 : Data7) ≠ 0 ∧ s.config.velThreshold.toNat ≤ (16 : Data7).toNat ∧
    s.mode.mode = .play ∧ s.parser.pendingNote.toNat = s.config.swapNote.toNat := by decide +kernel

/-- TeachingAddsTheNote: the hypotheses, a note already there, a note with a slot to spare behind it, a note for the last slot,
and a full channel. -/
theorem witness_TeachingAddsTheNote :
    let s := noteOnPending 60 (inMode .programMap 7 base)
    let full := { s with map := s.map.set 7 [1, 2, 3, 4] }
    let last := { s with map := s.map.set 7 [1, 2, 3, 0xFF] }
    let there := { s with map := s.map.set 7 [1, 60, 3, 0xFF] }
    let row := fun (t : State) => slotPrefix t.cfg.UNASSIGNED (t.map.getD 7 [])
    s.cfg.valid = true ∧ StoreOk s ∧ ShapeOk s ∧ ShapeOk full ∧ ShapeOk last ∧ ShapeOk there ∧ (16 : Data7) ≠ 0 ∧
    s.config.velThreshold.toNat ≤ (16 : Data7).toNat ∧ s.mode.mode = .programMap ∧ s.mode.progCh.toNat < s.cfg.C ∧
    (60 ∉ row s ∧ (row s).length + 1 < s.cfg.S) ∧ (60 ∉ row last ∧ (row last).length + 1 = s.cfg.S) ∧
    (60 ∉ row full ∧ (row full).length = s.cfg.S) ∧ 60 ∈ row there := by decide +kernel

/-- AddMappingTwiceIsDuplicate, on a channel with room and on a full one. -/
theorem witness_AddMappingTwiceIsDuplicate :
    let full := { base with map := base.map.set 7 [1, 2, 3, 4] }
    base.cfg.valid = true ∧ ShapeOk base ∧ ShapeOk full ∧ 7 < base.cfg.C ∧
    (slotPrefix full.cfg.UNASSIGNED (full.map.getD 7 [])).length = full.cfg.S ∧ 2 + 1 < full.cfg.S := by decide +kernel

/-- LookupFindsTheFirstChannel: a note that a channel holds, and one that none holds. -/
theorem witness_LookupFindsTheFirstChannel :
    lookup 0xFF base.map 44 0 = some 7 ∧ lookup 0xFF base.map 44 8 = none ∧ lookup 0xFF base.map 60 0 = none := by decide +kernel

/-- TickShapesEveryChannel, with a channel that a note-on has just activated, and one that is counting. -/
theorem witness_TickShapesEveryChannel :
    let s := run (.dataWaitingForOnVelocity 100) (noteOnPending 38 base)
    (∃ t, exec (.tick (on [])) s = .next t) ∧ s.channels[0]? = some { trig := true, lastVel := 100 } ∧
    (∃ t, exec (.tick (on [])) (run (.tick (on [])) s) = .next t) :=
  ⟨⟨_, ran (by decide +kernel)⟩, by decide +kernel, _, ran (by decide +kernel)⟩

/-- PulseWidthIsHoldDuration: four ticks after an activation, the hold duration being 3. -/
theorem witness_PulseWidthIsHoldDuration :
    let σ := ticking (on []) (run (.dataWaitingForOnVelocity 100) (noteOnPending 38 base))
    (∀ j ≤ (σ 1).config.holdDuration.toNat, ∃ lines, exec (.tick lines) (σ j) = .next (σ (j + 1))) ∧
    (σ 0).cfg.DUR_MODE = .fixed ∧ (σ 0).channels[0]? = some { trig := true, lastVel := 100 } := by
  refine ⟨fun j hj => ⟨on [], ran ?_⟩, by decide +kernel, by decide +kernel⟩
  have key : ∀ j ≤ 3, completes (.tick (on []))
      (ticking (on []) (run (.dataWaitingForOnVelocity 100) (noteOnPending 38 base)) j) = true := by decide +kernel
  exact key j (le_trans hj (by decide +kernel))

/-- TickLatchesTheReport: with a pulse, a forced output, the pedal channel and a pressed button. -/
theorem witness_TickLatchesTheReport :
    ∃ t, exec (.tick (on [0]))
      { (beforePressed 0 base) with
        channels := base.channels.set 1 { trig := true, lastVel := 90, forceOn := true }
        parser := { base.parser with pedalPos := 64 } } = .next t ∧
      t.channels[1]? = some { active := true, count := 2, lastVel := 90, forceOn := true } ∧
      t.report.btnMask[0]? = some true ∧ t.report.btnMask[1]? = some false ∧ t.report.btnMask[2]? = some false ∧
      t.report.btnMask[3]? = some false ∧ t.report.outActive[7]? = some true :=
  ⟨_, ran (by decide +kernel), by decide +kernel⟩

/-- TickStepsEveryButton: a raw change down and up; a stable sample below the press threshold, at it, and at saturation. -/
theorem witness_TickStepsEveryButton :
    base.cfg.valid = true ∧ (on [0])[0]? = some true ∧ base.buttons[0]? = some ({} : Button) ∧ (∃ t, exec (.tick (on [0])) base = .next t) ∧
    (∃ t, exec (.tick (on [])) (beforeHeld 0 base) = .next t) ∧ (∃ t, exec (.tick (on [0])) (pressing 0 {} 0 base) = .next t) ∧
    (∃ t, exec (.tick (on [0])) (beforePressed 0 base) = .next t) ∧
    (∃ t, exec (.tick (on [0]))
      (pressing 0 { pressed := true, held := true, heldLong := true, heldSuperLong := true } 8 base) = .next t) :=
  ⟨by decide +kernel, by decide +kernel, by decide +kernel, ⟨_, ran (by decide +kernel)⟩, ⟨_, ran (by decide +kernel)⟩,
   ⟨_, ran (by decide +kernel)⟩, ⟨_, ran (by decide +kernel)⟩, _, ran (by decide +kernel)⟩

/-- HeldButtonClimbsTheThresholds: the nine ticks of P8-7, past every threshold. -/
theorem witness_HeldButtonClimbsTheThresholds :
    let σ := ticking (on [0]) base
    (σ 0).cfg.valid = true ∧ (σ 0).buttons[0]? = some ({} : Button) ∧
    ∀ j ≤ 8, ∃ lines, lines[0]? = some true ∧ exec (.tick lines) (σ j) = .next (σ (j + 1)) := by
  refine ⟨by decide +kernel, by decide +kernel, fun j hj => ⟨on [0], by decide +kernel, ran ?_⟩⟩
  have key : ∀ j ≤ 8, completes (.tick (on [0])) (ticking (on [0]) base j) = true := by decide +kernel
  exact key j hj

/-- ReleasedButtonDecaysToUp: the release of a held and of a merely pressed button, three ticks. -/
theorem witness_ReleasedButtonDecaysToUp :
    let σ := ticking (on []) (beforeLong 0 (beforeHeld 1 base))
    (σ 0).cfg.valid = true ∧ (σ 0).buttons[0]? = some { pressedRaw := true, cls := { pressed := true, held := true }, run := 5 } ∧
    (σ 0).buttons[1]? = some { pressedRaw := true, cls := { pressed := true }, run := 3 } ∧
    ∀ j ≤ 2, ∃ lines, lines[0]? = some false ∧ lines[1]? = some false ∧ exec (.tick lines) (σ j) = .next (σ (j + 1)) := by
  refine ⟨by decide +kernel, by decide +kernel, by decide +kernel, fun j hj => ⟨on [], by decide +kernel, by decide +kernel, ran ?_⟩⟩
  have key : ∀ j ≤ 2, completes (.tick (on [])) (ticking (on []) (beforeLong 0 (beforeHeld 1 base)) j) = true := by decide +kernel
  exact key j hj

/-- TickTransitionTable: each of the five transitions has its edge. -/
theorem witness_TickTransitionTable :
    base.cfg.valid = true ∧ base.mode.cmdMode = false ∧
    (tickRose (on [5]) (beforeHeld 5 base) base.cfg.BTN_MODE).held = true ∧
    (run (.tick (on [5])) (beforeHeld 5 base)).mode.mode = .programMap ∧
    (run (.tick (on [5, 6])) (beforeHeld 5 (beforeHeld 6 (inMode .programMap 2 base)))).mode.mode = .play ∧
    (run (.tick (on [6])) (beforeHeld 6 (inMode .programMap 2 base))).mode.mode = .programVelocity ∧
    (run (.tick (on [6])) (beforeHeld 6 (inMode .programVelocity 2 base))).mode.mode = .programDuration ∧
    (run (.tick (on [6])) (beforeHeld 6 (inMode .programDuration 2 base))).mode.mode = .programMap := by decide +kernel

theorem witness_CommandModeSuspendsTheController : (inCommandMode (beforeHeld 5 base)).mode.cmdMode = true := rfl

/-- TickWithoutEdgeDoesNothing, in a mode with actions. -/
theorem witness_TickWithoutEdgeDoesNothing :
    ∀ i < (inMode .programMap 0 base).buttons.length, tickRose (on [0]) (inMode .programMap 0 base) i = {} := by decide +kernel

/-- ToggleRoundTripKeepsTheMap: one tick, with the toggle button's Held edge alone. -/
theorem witness_ToggleRoundTripKeepsTheMap :
    let σ := ticking (on [5]) (beforeHeld 5 base)
    (σ 0).cfg.valid = true ∧ (σ 0).mode.mode = .play ∧ (σ 0).mode.cmdMode = false ∧
    (∀ j < 1, exec (.tick (on [5])) (σ j) = .next (σ (j + 1)) ∧
      ∀ i, i ≠ (σ j).cfg.BTN_MODE → tickRose (on [5]) (σ j) i = {}) ∧
    (tickRose (on [5]) (σ 0) (σ 0).cfg.BTN_MODE).held = true := by
  refine ⟨by decide +kernel, rfl, rfl, fun j hj => ?_, by decide +kernel⟩
  obtain rfl : j = 0 := by omega
  refine ⟨ran (by decide +kernel), fun i hi => ?_⟩
  by_cases h : i < 8
  · have key : ∀ i < 8, i ≠ 5 → tickRose (on [5]) (beforeHeld 5 base) i = {} := by decide +kernel
    exact key i h hi
  · show tickRose (on [5]) (beforeHeld 5 base) i = {}
    have hl : (beforeHeld 5 base).buttons.length ≤ i := by
      have : (beforeHeld 5 base).buttons.length = 8 := by decide +kernel
      omega
    simp only [tickRose, roseAt]
    rw [List.getElem?_eq_none hl]

/-- SwapGestureCyclesBank: the gesture; without it the edges of Up and cycle; and no swap button at all. -/
theorem witness_SwapGestureCyclesBank :
    let s := beforeHeld 7 (beforePressed 0 (beforeHeld 6 { base with cfg := swapCfg }))
    s.cfg.valid = true ∧ StoreOk s ∧ s.mode.cmdMode = false ∧ s.mode.mode = .play ∧ s.cfg.BTN_SWAP = some 7 ∧
    (tickRose (on [0, 6, 7]) s 5).held = false ∧ (tickRose (on [0, 6, 7]) s 7).held = true ∧
    (tickRose (on [0, 6]) s 5).held = false ∧ (tickRose (on [0, 6]) s 7).held = false ∧
    (tickRose (on [0, 6]) s 0).pressed = true ∧ (tickRose (on [0, 6]) s 6).held = true ∧ base.cfg.BTN_SWAP = none := by
  decide +kernel

/-- MapUpDownSelectTheChannel: Up at the last channel, Down at the first, and both at once. -/
theorem witness_MapUpDownSelectTheChannel :
    let up := beforePressed 0 (inMode .programMap 7 base)
    let down := beforePressed 1 (inMode .programMap 0 base)
    let both := beforePressed 0 (beforePressed 1 (inMode .programMap 3 base))
    up.cfg.valid = true ∧ up.mode.cmdMode = false ∧ up.mode.mode = .programMap ∧ down.mode.mode = .programMap ∧
    both.mode.mode = .programMap ∧
    (tickRose (on [0]) up 5).held = false ∧ (tickRose (on [0]) up 6).held = false ∧ (tickRose (on [0]) up 0).pressed = true ∧
    (tickRose (on [1]) down 5).held = false ∧ (tickRose (on [1]) down 6).held = false ∧
    (tickRose (on [1]) down 1).pressed = true ∧ (tickRose (on [0, 1]) both 5).held = false ∧
    (tickRose (on [0, 1]) both 6).held = false ∧ (tickRose (on [0, 1]) both 0).pressed = true ∧
    (tickRose (on [0, 1]) both 1).pressed = true ∧
    ∀ i < 8, i ≠ 0 → i ≠ 1 → tickRose (on [0, 1]) both i = {} := by decide +kernel

/-- MapLeftRightSelectTheBank: Left alone, both at once, and both with the two long edges of cancel. -/
theorem witness_MapLeftRightSelectTheBank :
    let left := beforePressed 2 (inMode .programMap 7 base)
    let both := beforePressed 2 (beforePressed 3 (inMode .programMap 7 base))
    let long := beforeLong 4 both
    left.cfg.valid = true ∧ StoreOk left ∧ left.mode.cmdMode = false ∧ left.mode.mode = .programMap ∧
    (tickRose (on [2]) left 5).held = false ∧ (tickRose (on [2]) left 6).held = false ∧
    (tickRose (on [2]) left 4).heldLong = false ∧ (tickRose (on [2]) left 4).heldSuperLong = false ∧
    (tickRose (on [2]) left 2).pressed = true ∧ (tickRose (on [2, 3]) both 5).held = false ∧
    (tickRose (on [2, 3]) both 6).held = false ∧ (tickRose (on [2, 3]) both 4).heldLong = false ∧
    (tickRose (on [2, 3]) both 4).heldSuperLong = false ∧ (tickRose (on [2, 3]) both 3).pressed = true ∧
    (tickRose (on [2, 3, 4]) long 4).heldLong = true ∧ (tickRose (on [2, 3, 4]) long 2).pressed = true := by decide +kernel

/-- MapCancelClearsOrRestores: Up at the last channel, Down, Left and Right with the HeldLong edge and with the HeldSuperLong
edge of cancel; with both; and cancel's Held edge alone. -/
theorem witness_MapCancelClearsOrRestores :
    let all := beforePressed 0 (beforePressed 1 (beforePressed 2 (beforePressed 3 (inMode .programMap 7 base))))
    let long := beforeLong 4 all
    let superLong := beforeSuper 4 all
    let equal := { long with cfg := { refcfg with T_SUPER := 6 } }
    let held := beforeHeld 4 (inMode .programMap 7 base)
    let ls := on [0, 1, 2, 3, 4]
    long.cfg.valid = true ∧ equal.cfg.valid = true ∧ StoreOk long ∧ long.mode.cmdMode = false ∧
    long.mode.mode = .programMap ∧ long.mode.progCh.toNat < long.cfg.C ∧
    (∀ i, 4 ≤ i → i < 8 → (tickRose ls long i).held = false ∧ (tickRose ls superLong i).held = false ∧
      (tickRose ls equal i).held = false) ∧
    (∀ i < 4, (tickRose ls long i).pressed = true ∧ (tickRose ls superLong i).pressed = true) ∧
    (tickRose ls long 4).heldLong = true ∧ (tickRose ls long 4).heldSuperLong = false ∧
    (tickRose ls superLong 4).heldLong = false ∧ (tickRose ls superLong 4).heldSuperLong = true ∧
    (tickRose ls equal 4).heldLong = true ∧ (tickRose ls equal 4).heldSuperLong = true ∧
    (tickRose (on [4]) held 4).held = true ∧ (tickRose (on [4]) held 4).heldLong = false := by decide +kernel

/-- R241's order: the channel that Up has selected, in the bank that Right has selected, is the one cancel empties. -/
theorem test_cancel_after_up_and_right :
    let s := beforeLong 4 (beforePressed 0 (beforePressed 3 (inMode .programMap 2 base)))
    let t := run (.tick (on [0, 3, 4])) s
    t.mode.progCh = 3 ∧ t.config.activeBank = 1 ∧ storesOf t.bus = [(3, 1), (52, 0xFF)] ∧
    t.map.getD 3 [] = [0xFF, 0xFF, 0xFF, 0xFF] ∧ t.map.getD 2 [] = [62, 0xFF, 0xFF, 0xFF] ∧ t.store.read 20 = 41 := by decide +kernel

/-- VelocityActionsMoveTheThreshold: no edge, and the edges of Up, Down and cancel on one TICK. -/
theorem witness_VelocityActionsMoveTheThreshold :
    let s := beforePressed 0 (beforePressed 1 (beforeHeld 4 (inMode .programVelocity 0 base)))
    s.cfg.valid = true ∧ StoreOk s ∧ s.mode.cmdMode = false ∧ s.mode.mode = .programVelocity ∧
    (tickRose (on [0, 1, 4]) s 6).held = false ∧ (tickRose (on [0, 1, 4]) s 0).pressed = true ∧
    (tickRose (on [0, 1, 4]) s 1).pressed = true ∧ (tickRose (on [0, 1, 4]) s 4).held = true ∧
    (tickRose (on []) s 6).held = false ∧ (tickRose (on []) s 0).pressed = false := by decide +kernel

/-- DurationActionsMoveTheHold: the edges of Up, Down and cancel on one TICK. -/
theorem witness_DurationActionsMoveTheHold :
    let s := beforePressed 0 (beforePressed 1 (beforeHeld 4 (inMode .programDuration 0 base)))
    s.cfg.valid = true ∧ StoreOk s ∧ s.mode.cmdMode = false ∧ s.mode.mode = .programDuration ∧
    (tickRose (on [0, 1, 4]) s 6).held = false ∧ (tickRose (on [0, 1, 4]) s 0).pressed = true ∧
    (tickRose (on [0, 1, 4]) s 1).pressed = true ∧ (tickRose (on [0, 1, 4]) s 4).held = true := by decide +kernel

/-- SetRequestsWriteThrough: the hypotheses, and parameters at both ends of the ranges and just outside them. -/
theorem witness_SetRequestsWriteThrough :
    base.cfg.valid = true ∧ StoreOk base ∧ (run (.setHold { args with p0 := 1 }) base).config.holdDuration = 1 ∧
    (run (.setHold { args with p0 := 6 }) base).config.holdDuration = 6 ∧
    (run (.setHold { args with p0 := 0 }) base).config.holdDuration = 3 ∧
    (run (.setHold { args with p0 := 7 }) base).config.holdDuration = 3 ∧
    (run (.setVelthr { args with p0 := 127 }) base).config.velThreshold = 127 ∧
    (run (.setVelthr { args with p0 := 128 }) base).config.velThreshold = 16 ∧
    (run (.setHhthr { args with p0 := 128 }) base).config.hhThreshold = 64 := by decide +kernel

/-- SetBankSelectsTheBank: the last bank, and the first number that is none. -/
theorem witness_SetBankSelectsTheBank :
    base.cfg.valid = true ∧ StoreOk base ∧ ({ args with p0 := 1 } : HostArgs).p0.toNat ≤ 1 ∧
    2 ≤ ({ args with p0 := 2 } : HostArgs).p0.toNat := by decide +kernel

/-- SetMapWritesOneEntry: the last entry, and the first channel and the first slot out of range. -/
theorem witness_SetMapWritesOneEntry :
    base.cfg.valid = true ∧ StoreOk base ∧ ShapeOk base ∧ (7 : Byte).toNat < base.cfg.C ∧ (3 : Byte).toNat < base.cfg.S ∧
    base.cfg.C ≤ (8 : Byte).toNat ∧ base.cfg.S ≤ (4 : Byte).toNat := by decide +kernel

theorem witness_ForceOutputWritesOneBit : base.channels.length = base.cfg.C := by decide +kernel

/-- RequestsWriteOnlyTheirRegisters: a known opcode, an unknown one, and an invalid prefix. -/
theorem witness_RequestsWriteOnlyTheirRegisters :
    decode base.cfg .waitingForStatus (.hostreq [0xA5, 0x30, 7, 1, 2, 3, 4, 5]) = .ok (.forceOutput args) ∧
    (∃ t, exec (.forceOutput args) base = .next t) ∧
    decode base.cfg .waitingForStatus (.hostreq [0xA5, 0x7F, 7, 1, 2, 3, 4, 5]) = .ok (.hostUnknownOpcode 0x7F args) ∧
    (∃ t, exec (.hostUnknownOpcode 0x7F args) base = .next t) ∧
    decode base.cfg .waitingForStatus (.hostreq [0xA4, 0x30, 7, 1, 2, 3, 4, 5]) = .ok (.hostInvalidPrefix 0xA4 0x30 args) ∧
    (∃ t, exec (.hostInvalidPrefix 0xA4 0x30 args) base = .next t) ∧ (0x30 : Byte) ∈ base.cfg.opcodes.toList :=
  ⟨rfl, ⟨_, ran (by decide +kernel)⟩, rfl, ⟨_, ran (by decide +kernel)⟩, rfl, ⟨_, ran (by decide +kernel)⟩, by decide +kernel⟩

/-- DecodeAfterEncode: a data byte in the state that selects it, an unknown opcode and an invalid prefix. -/
theorem witness_DecodeAfterEncode :
    refcfg.valid = true ∧ WellFormed refcfg (.dataWaitingForPedalData 127) = true ∧
    (Instr.dataWaitingForPedalData 127).dataState = some .waitingForPedalData ∧
    WellFormed refcfg (.hostUnknownOpcode 0x32 args) = true ∧ (Instr.hostUnknownOpcode 0x32 args).dataState = none ∧
    WellFormed refcfg (.hostInvalidPrefix 0xA4 0x00 args) = true ∧ (Instr.hostInvalidPrefix 0xA4 0x00 args).dataState = none := by
  decide +kernel

theorem witness_EncodeAfterDecode :
    decode refcfg .waitingForPedalData (.byte 0x7F) = .ok (.dataWaitingForPedalData 127) ∧
    decode refcfg .waitingForStatus (.tick (on [3])) = .ok (.tick (on [3])) := ⟨rfl, rfl⟩

/-- StepRunsTheDecodedInstruction: an event after the first RESET, and the first RESET. -/
theorem witness_StepRunsTheDecodedInstruction :
    base.cfg.valid = true ∧ (present (.byte 0x90) base).pending = [.byte 0x90] ∧
    decode base.cfg base.parser.mstate (.byte 0x90) = .ok (.noteOn 0) ∧ base.awaitingReset = false ∧
    decode base.cfg base.parser.mstate (.reset blankStore) = .ok (.reset blankStore) ∧ isReset (.reset blankStore) = true :=
  ⟨by decide +kernel, rfl, rfl, rfl, rfl, rfl⟩

/-- StepIdleAndRefusals: an invalid CFG, no event, an event before the first RESET, and a malformed argument. -/
theorem witness_StepIdleAndRefusals :
    ({ base with cfg := { refcfg with C := 0 } } : State).cfg.valid = false ∧ base.cfg.valid = true ∧ base.pending = [] ∧
    (present .linkerr { base with awaitingReset := true }).pending = [.linkerr] ∧
    (present .linkerr { base with awaitingReset := true }).awaitingReset = true ∧ isReset .linkerr = false ∧
    (present (.tick []) base).pending = [.tick []] ∧
    decode base.cfg base.parser.mstate (.tick []) = .error .tickLineCount ∧ base.awaitingReset = false :=
  ⟨by decide +kernel, by decide +kernel, rfl, rfl, rfl, rfl, rfl, rfl, rfl⟩

/-- StoreChangesOnlyByIssuedWrites: an event with a store call, one without, and RESET. -/
theorem witness_StoreChangesOnlyByIssuedWrites :
    (∃ t, exec (.setSwap args) base = .next t ∧ t.bus ≠ []) ∧ (∃ t, exec (.getSwap args) base = .next t) ∧
    ∃ t, exec (.reset blankStore) base = .next t ∧ t.bus ≠ [] :=
  ⟨⟨_, ran (by decide +kernel), by decide +kernel⟩, ⟨_, ran (by decide +kernel)⟩, _, ran (by decide +kernel), by decide +kernel⟩

/-- WritersOfTheModeRegisters: an event that changes each of the four registers. -/
theorem witness_WritersOfTheModeRegisters :
    (∃ t, exec (.tick (on [5])) (beforeHeld 5 base) = .next t ∧ t.mode.mode ≠ base.mode.mode) ∧
    (∃ t, exec (.enterCmdMode args) base = .next t ∧ t.mode.cmdMode ≠ base.mode.cmdMode) ∧
    (∃ t, exec (.noteOn 0) base = .next t ∧ t.parser.mstate ≠ base.parser.mstate) ∧
    ∃ t, exec (.reset blankStore) base = .next t ∧ t.mode.distress ≠ base.mode.distress :=
  ⟨⟨_, ran (by decide +kernel), by decide +kernel⟩, ⟨_, ran (by decide +kernel), by decide +kernel⟩,
   ⟨_, ran (by decide +kernel), by decide +kernel⟩, _, ran (by decide +kernel), by decide +kernel⟩

/-- StepKeepsCacheCoherence, from a coherent state and by RESET. -/
theorem witness_StepKeepsCacheCoherence :
    base.cfg.valid = true ∧ StoreOk base ∧ WellFormed base.cfg (.setMap args) = true ∧ Coherent base ∧
    (∃ t, exec (.setMap args) base = .next t) ∧ WellFormed base.cfg (.reset blankStore) = true ∧
    ∃ t, exec (.reset blankStore) base = .next t :=
  ⟨by decide +kernel, by decide +kernel, rfl, by decide +kernel, ⟨_, ran (by decide +kernel)⟩, by decide +kernel, _,
   ran (by decide +kernel)⟩

theorem witness_StepKeepsModeRules :
    base.cfg.valid = true ∧ ModeOk (inMode .programMap 7 base) ∧
    ∃ t, exec (.tick (on [0])) (beforePressed 0 (inMode .programMap 7 base)) = .next t :=
  ⟨by decide +kernel, by decide +kernel, _, ran (by decide +kernel)⟩

theorem witness_StepKeepsButtonRules :
    let s := beforeSuper 4 base
    s.cfg.valid = true ∧ s.buttons.length = s.cfg.NB ∧ ButtonsOk s ∧ LinesOk s ∧ WellFormed s.cfg (.tick (on [4])) = true ∧
    ∃ t, exec (.tick (on [4])) s = .next t :=
  ⟨by decide +kernel, by decide +kernel, by decide +kernel, by decide +kernel, by decide +kernel, _, ran (by decide +kernel)⟩

/-- The step answers a next state. -/
def steps (s : State) : Bool :=
  match step s with
  | .next _ => true
  | .fault _ => false
  | .refused _ => false

theorem stepped {s : State} (h : steps s = true) : ∃ t, step s = .next t := by
  unfold steps at h
  split at h
  · next t e => exact ⟨t, e⟩
  · cases h
  · cases h

/-- StepKeepsInvariant, at a step that runs an instruction. -/
theorem witness_StepKeepsInvariant :
    Inv (present (.byte 0x90) base) ∧ ∃ t, step (present (.byte 0x90) base) = .next t :=
  ⟨by decide +kernel, stepped (by decide +kernel)⟩

end Sys2Proof.Tests
end

section
/-! The invariant of Safety.lean holds at State.reset (O2) and every step keeps it (O60). `inv_iff` takes it apart into four parts;
each part has its lemma over every instruction's effect (`mirror_effect`, `parserOk_effect`, `modeOk_effect`, `panelKept_effect`). -/
namespace Sys2Proof.Machine

/-! ### The invariant in four parts -/

/-- The parser registers' part of the invariant: the buffer of length `cap`, SYSEX_LEN within it, at most one event. -/
structure ParserOk (cap : Nat) (p : ParserRegs) : Prop where
  buf : p.sysexBuf.length = cap
  len : p.sysexLen ≤ cap
  events : p.events.length ≤ 1

/-- The part of the invariant about the registers that only TICK and RESET write as a whole: channels, buttons, lines, report. -/
structure PanelOk (s : State) : Prop where
  channels : s.channels.length = s.cfg.C
  buttons : s.buttons.length = s.cfg.NB
  lineRaw : s.lineRaw.length = s.cfg.NL
  outActive : s.report.outActive.length = s.cfg.C
  velOut : s.report.velOut.length = s.cfg.C
  btnMask : s.report.btnMask.length = s.cfg.NB
  axis3 : s.report.axis3 = 0
  classes : ButtonsOk s
  lines : LinesOk s

/-- The invariant is its four parts: the mirror of the store, the parser, the mode rules and the panel. -/
theorem inv_iff {s : State} : Inv s ↔ Mirror s ∧ ParserOk s.cfg.SYSEX_CAP s.parser ∧ ModeOk s ∧ PanelOk s := by
  constructor
  · rintro ⟨hv, ⟨hch, hb, hrows, hcols, hline, hout, hvel, hbtn, hbuf, hlen⟩, hst, hmode, hcls, hlines, hcoh, hev, hax⟩
    exact ⟨⟨hv, hrows, hcols, hst, hcoh⟩, ⟨hbuf, hlen, hev⟩, hmode, ⟨hch, hb, hline, hout, hvel, hbtn, hax, hcls, hlines⟩⟩
  · rintro ⟨hm, hp, hmode, hk⟩
    exact ⟨hm.valid,
      ⟨hk.channels, hk.buttons, hm.rows, hm.cols, hk.lineRaw, hk.outActive, hk.velOut, hk.btnMask, hp.buf, hp.len⟩,
      hm.store, hmode, hk.classes, hk.lines, hm.coherent, hp.events, hk.axis3⟩

/-! ### RESET -/

/-- RESET leaves InitRegisters' value in every register but DISTRESS and those it loads from the store (R360 to R364). -/
theorem resetEvent_eq (store0 : List Byte) (s : State) :
    ∃ distress config map store bus, resetEvent store0 s =
      { initRegisters s with
        mode := { distress := distress }, config := config, map := map, store := store, bus := bus } := by
  rw [resetEvent, loadFromStore_eq]
  by_cases h : (bootStore store0 s).read s.cfg.ADDR_VERSION = s.cfg.SCHEMA_VERSION
  · rw [bootCheck_of_eq (s := initRegisters { s with store := bootStore store0 s }) h]
    exact ⟨_, _, _, _, _, rfl⟩
  · rw [bootCheck_of_ne (s := initRegisters { s with store := bootStore store0 s }) h, restoreAll_eq]
    exact ⟨_, _, _, _, _, rfl⟩

/-- A store step from a state with a good store ends in one. -/
theorem StoreStep.storeOk {s t : State} (h : StoreStep s t) (hv : s.cfg.valid = true) (hs : StoreOk s) : StoreOk t := by
  obtain ⟨hc, -, -, ops, -, hst, hlt⟩ := h
  simp only [StoreOk, hc, hst]
  exact ⟨wf_replay hs.1 ops, bound_replay hs.2 (hlt hv)⟩

/-- RESET makes the registers mirror the store, whatever they held before (R71, R364). -/
theorem mirror_resetEvent {store0 : List Byte} {s : State} (hv : s.cfg.valid = true) (hs : StoreOk s)
    (hl : store0.length = s.cfg.STORE_SIZE) : Mirror (resetEvent store0 s) := by
  have hboot := storeStep_bootCheck (initRegisters { s with store := bootStore store0 s })
  refine mirror_loadFromStore ?_ (hboot.storeOk hv (storeOk_bootStore hs hl))
  rw [hboot.cfg]
  exact hv

/-! ### The mirror of the store -/

/-- What a SET's write does to the mirror, the SET does. -/
theorem Mirror.setIf {b : Bool} {f : State → State} {s : State} (h : Mirror s) (hf : Mirror s → Mirror (f s)) :
    Mirror (setIf b f s) := by
  cases b
  · exact h
  · exact hf h

/-- The common response write is about no mirrored register. -/
theorem Mirror.respond {s : State} (h : Mirror s) (a : HostArgs) : Mirror (respond a s) := h.of_eq rfl rfl rfl rfl

theorem Mirror.answerX {s : State} (h : Mirror s) (v : Byte) : Mirror (answerX v s) := h.of_eq rfl rfl rfl rfl

theorem mirror_appendSysex {s : State} (h : Mirror s) (v : Data7) : Mirror (appendSysex v s) := by
  rw [appendSysex]
  split
  · exact h.of_eq rfl rfl rfl rfl
  · exact h

theorem mirror_linkErrEvent {s : State} (h : Mirror s) : Mirror (linkErrEvent s) := by
  simp only [linkErrEvent]
  split <;> exact h.of_eq rfl rfl rfl rfl

/-- Every instruction but RESET keeps the mirror (R71). -/
theorem mirror_effect {i : Instr} {s : State} (h : Mirror s) (hr : ∀ m, i ≠ .reset m) : Mirror (effect i s) := by
  cases i
  case reset m => exact absurd rfl (hr m)
  case tick ls => exact mirror_tickEvent h ls
  case linkErr => exact mirror_linkErrEvent h
  case dataWaitingForOnVelocity v =>
    have hclear : Mirror (clearEvents s) := h.of_eq rfl rfl rfl rfl
    exact (mirror_completeNoteOn hclear v).of_eq rfl rfl rfl rfl
  case dataCollectSysExData v =>
    have hclear : Mirror (clearEvents s) := h.of_eq rfl rfl rfl rfl
    exact mirror_appendSysex hclear v
  case setHold a => exact ((h.respond a).setIf (mirror_writeHold · _)).answerX _
  case setVelthr a => exact ((h.respond a).setIf (mirror_writeVelThreshold · _)).answerX _
  case setSwap a => exact (mirror_writeSwapNote (h.respond a) _).answerX _
  case setHhthr a => exact ((h.respond a).setIf (mirror_writeHhThreshold · _)).answerX _
  case setBank a => exact ((h.respond a).setIf (mirror_selectBank · _)).answerX _
  case setMap a =>
    simp only [effect, afterRespond_apply]
    split
    · exact (mirror_mapSet (h.respond a) _ _ _).answerX _
    · exact h.respond a
  case getMap | readLine | forceOutput =>
    simp only [effect, afterRespond_apply]
    split <;> exact h.of_eq rfl rfl rfl rfl
  all_goals exact h.of_eq rfl rfl rfl rfl

/-! ### The parser registers -/

/-- Writes to the parser's other registers, and to EVENTS within its bound, keep the parser's part. -/
theorem ParserOk.of_regs {cap : Nat} {p q : ParserRegs} (h : ParserOk cap p) (hbuf : q.sysexBuf = p.sysexBuf)
    (hlen : q.sysexLen = p.sysexLen) (hev : q.events.length ≤ 1) : ParserOk cap q :=
  ⟨hbuf ▸ h.buf, hlen ▸ h.len, hev⟩

/-- A velocity byte adds at most one event, and leaves the SysEx buffer (R121, R141). -/
theorem parserOk_completeNoteOn {cap : Nat} {s : State} (h : ParserOk cap s.parser) (he : s.parser.events = [])
    (v : Data7) : ParserOk cap (completeNoteOn v s).parser := by
  by_cases h0 : v = 0
  · rw [h0, completeNoteOn_zero]
    exact h.of_regs rfl rfl (by simp [he])
  · by_cases hq : s.config.velThreshold.toNat ≤ v.toNat
    · rw [completeNoteOn_of_qualifies h0 hq, routeNoteOn_parser]
      exact h.of_regs rfl rfl (by simp [he])
    · rw [completeNoteOn_of_lt h0 (by omega)]
      exact h

/-- The bounded append stays within the buffer (R150). -/
theorem parserOk_appendSysex {s : State} (h : ParserOk s.cfg.SYSEX_CAP s.parser) (v : Data7) :
    ParserOk s.cfg.SYSEX_CAP (appendSysex v s).parser := by
  rw [appendSysex]
  split
  · next hroom => exact ⟨(List.length_set).trans h.buf, hroom, h.events⟩
  · exact h

/-- Every instruction keeps the parser's part (R28, R121): a BYTE emits at most one event after clearing EVENTS, a request leaves
the parser. -/
theorem parserOk_effect {i : Instr} {s : State} (h : ParserOk s.cfg.SYSEX_CAP s.parser) :
    ParserOk s.cfg.SYSEX_CAP (effect i s).parser := by
  have hclear : ParserOk s.cfg.SYSEX_CAP (clearEvents s).parser := h.of_regs rfl rfl (Nat.zero_le 1)
  cases i
  case reset m =>
    obtain ⟨_, _, _, _, _, e⟩ := resetEvent_eq m s
    simp only [effect, e]
    exact ⟨List.length_replicate, Nat.zero_le _, Nat.zero_le 1⟩
  case tick ls => rw [effect, tickEvent_parser]; exact h
  case linkErr =>
    simp only [effect, linkErrEvent]
    split <;> exact h.of_regs rfl rfl h.events
  case sysexStart => exact ⟨h.buf, Nat.zero_le _, Nat.zero_le 1⟩
  case dataWaitingForOnVelocity v =>
    have hdone := parserOk_completeNoteOn hclear rfl v
    exact hdone.of_regs rfl rfl hdone.events
  case dataWaitingForOffVelocity v => exact h.of_regs rfl rfl (Nat.le_refl 1)
  case dataWaitingForPedalData v => exact h.of_regs rfl rfl (Nat.le_refl 1)
  case dataCollectSysExData v => exact parserOk_appendSysex (s := clearEvents s) hclear v
  case setHold | setVelthr | setHhthr | setBank | getMap | setMap | forceOutput | readLine =>
    simp only [effect, afterRespond_apply, setIf]
    split <;> simpa using h
  case getVersion | getFeatures | enterCmdMode | exitCmdMode | getHold | getVelthr | getSwap | setSwap | getHhthr | getBank |
      hostUnknownOpcode | hostInvalidPrefix => exact h
  all_goals exact h.of_regs rfl rfl (Nat.zero_le 1)

/-! ### The mode rules -/

/-- The mode rules are about CFG and the mode registers alone. -/
theorem modeOk_of_eq {s t : State} (h : ModeOk s) (hc : t.cfg = s.cfg) (hm : t.mode = s.mode) : ModeOk t := by
  simp only [ModeOk, hc, hm]
  exact h

/-- The transitions of R242: into ProgramMap at channel 0, back to Play, or from one programming mode to the next. -/
theorem transition_cases {c : Cfg} {rose : Nat → BtnClass} {m m' : ModeRegs} (h : transition c rose m = some m') :
    m' = { m with mode := .programMap, progValid := true, progCh := 0 } ∨
    m' = { m with mode := .play, progValid := false } ∨
    ∃ next, m.mode ≠ .play ∧ next ≠ .play ∧ m' = { m with mode := next } := by
  simp only [transition] at h
  split at h
  · cases h; exact .inl rfl
  · split at h
    · cases h; exact .inr (.inl rfl)
    · split at h
      · split at h
        · cases h
        all_goals
          next hm => cases h; exact .inr (.inr ⟨_, by simp [hm], by simp, rfl⟩)
      · cases h

/-- A transition keeps the mode rules (R39, R242). -/
theorem modeOk_transition {s : State} {rose : Nat → BtnClass} {m : ModeRegs} (hv : s.cfg.valid = true) (h : ModeOk s)
    (hcmd : s.mode.cmdMode = false) (ht : transition s.cfg rose s.mode = some m) : ModeOk { s with mode := m } := by
  obtain ⟨hvalid, hch, -⟩ := h
  rcases transition_cases ht with rfl | rfl | ⟨next, hnow, hnext, rfl⟩
  · exact ⟨by simp, fun _ => (valid_sizes hv).1, by simp [hcmd]⟩
  · exact ⟨by simp, by simp, by simp⟩
  · exact ⟨by simp [hvalid.2 hnow, hnext], hch, by simp [hcmd]⟩

/-- The actions of a mode keep the selected channel a channel (R250). -/
theorem progCh_modeActions_lt {s : State} (hv : s.cfg.valid = true) (h : s.mode.progCh.toNat < s.cfg.C)
    (rose : Nat → BtnClass) : (modeActions rose s).mode.progCh.toNat < s.cfg.C := by
  have hC := (valid_sizes hv).2.1
  rw [modeActions]
  split
  · simpa using h
  · simp only [mapActions, onEdge_restoreActive_mode, onEdge_clearSelected_mode, onEdge_selectBank_mode, progCh_upDown hv,
      BitVec.toNat_ofNat]
    refine lt_of_le_of_lt (Nat.mod_le _ _) ?_
    repeat' split
    all_goals omega
  · simpa using h
  · simpa using h

/-- The mode step keeps the mode rules (R39, R241, R244). -/
theorem modeOk_modeStep {s : State} (hv : s.cfg.valid = true) (h : ModeOk s) (rose : Nat → BtnClass) :
    ModeOk (modeStep rose s) := by
  cases hcmd : s.mode.cmdMode with
  | true => rw [modeStep_of_cmd hcmd]; exact h
  | false =>
    cases ht : transition s.cfg rose s.mode with
    | some m => rw [modeStep_of_transition hcmd ht]; exact modeOk_transition hv h hcmd ht
    | none =>
      rw [modeStep_of_none hcmd ht]
      have hkeep := modeActions_mode rose s
      have hmode : (modeActions rose s).mode.mode = s.mode.mode := (congrArg ModeRegs.mode hkeep :)
      have hvalid : (modeActions rose s).mode.progValid = s.mode.progValid := (congrArg ModeRegs.progValid hkeep :)
      have hcmd' : (modeActions rose s).mode.cmdMode = s.mode.cmdMode := (congrArg ModeRegs.cmdMode hkeep :)
      simp only [ModeOk, hmode, hvalid, hcmd', modeActions_cfg]
      exact ⟨h.1, fun hp => progCh_modeActions_lt hv (h.2.1 hp) rose, h.2.2⟩

/-- Every instruction keeps the mode rules (R39, R244). -/
theorem modeOk_effect {i : Instr} {s : State} (hv : s.cfg.valid = true) (h : ModeOk s) : ModeOk (effect i s) := by
  cases i
  case reset m =>
    obtain ⟨_, _, _, _, _, e⟩ := resetEvent_eq m s
    simp only [effect, e]
    exact ⟨by simp, by simp, by simp⟩
  case tick ls => exact modeOk_modeStep (s := sampleStep ls s) hv h (tickRose ls s)
  case enterCmdMode a => exact ⟨by simp [effect], by simp [effect], by simp [effect]⟩
  case exitCmdMode a => exact ⟨h.1, h.2.1, by simp [effect]⟩
  case linkErr =>
    simp only [effect, linkErrEvent]
    split <;> exact h
  case dataWaitingForOnVelocity v =>
    exact modeOk_of_eq h (completeNoteOn_cfg (clearEvents s) v) (completeNoteOn_mode (clearEvents s) v)
  case setHold | setVelthr | setHhthr | setBank | getMap | setMap | forceOutput | readLine =>
    simp only [effect, afterRespond_apply, setIf]
    split <;> exact modeOk_of_eq h (by simp) (by simp)
  case dataCollectSysExData v =>
    simp only [effect, afterClear_apply, appendSysex]
    split <;> exact h
  all_goals exact h



/-! ### The panel: channels, buttons, lines and report -/

/-- From `s` to `t` CFG, the buttons, the lines, the report and the number of channels stay. -/
structure PanelKept (s t : State) : Prop where
  cfg : t.cfg = s.cfg
  channels : t.channels.length = s.channels.length
  buttons : t.buttons = s.buttons
  lineRaw : t.lineRaw = s.lineRaw
  report : t.report = s.report

/-- The panel's part of the invariant is about the registers `PanelKept` names. -/
theorem PanelOk.of_kept {s t : State} (h : PanelOk s) (k : PanelKept s t) : PanelOk t := by
  obtain ⟨hc, hch, hb, hl, hr⟩ := k
  obtain ⟨h1, h2, h3, h4, h5, h6, h7, h8, h9⟩ := h
  constructor
  all_goals simp only [ButtonsOk, LinesOk, hc, hch, hb, hl, hr]; assumption

/-- Activating channels keeps their number (R200). -/
theorem activateLoop_length (u note : Byte) (m : List (List Byte)) (v : Data7) (fuel : Nat) (found : Option Nat)
    (chs : List Channel) : (activateLoop u m note v fuel found chs).length = chs.length := by
  induction fuel generalizing found chs with
  | zero => rfl
  | succ fuel ih =>
    cases found with
    | none => rfl
    | some ch => rw [activateLoop, ih, activate, List.length_modify]

/-- Routing a note keeps the number of channels (R142). -/
theorem routeNoteOn_channels_length (n v : Data7) (s : State) : (routeNoteOn n v s).channels.length = s.channels.length := by
  rw [routeNoteOn]
  split
  · rw [routePlay]
    split
    · rw [cycleBank_channels]
    · rw [activateAll_channels, activateLoop_length]
  · rw [addMapping_channels]
  · rfl
  · rfl

/-- A velocity byte keeps the number of channels (R141). -/
theorem completeNoteOn_channels_length (v : Data7) (s : State) :
    (completeNoteOn v s).channels.length = s.channels.length := by
  simp only [completeNoteOn]
  split
  · rfl
  · split
    · exact routeNoteOn_channels_length _ _ _
    · rfl

/-- Every instruction but TICK and RESET keeps the panel. -/
theorem panelKept_effect {i : Instr} {s : State} (ht : ∀ ls, i ≠ .tick ls) (hr : ∀ m, i ≠ .reset m) :
    PanelKept s (effect i s) := by
  cases i
  case tick ls => exact absurd rfl (ht ls)
  case reset m => exact absurd rfl (hr m)
  case linkErr =>
    simp only [effect, linkErrEvent]
    split <;> exact ⟨rfl, rfl, rfl, rfl, rfl⟩
  case dataWaitingForOnVelocity v =>
    simp only [effect, afterClear_apply]
    exact ⟨by simp, completeNoteOn_channels_length v (clearEvents s), by simp, by simp, by simp⟩
  case dataCollectSysExData v =>
    simp only [effect, afterClear_apply, appendSysex]
    split <;> exact ⟨rfl, rfl, rfl, rfl, rfl⟩
  case setHold | setVelthr | setHhthr | setBank | getMap | setMap | forceOutput | readLine =>
    simp only [effect, afterRespond_apply, setIf]
    split <;> constructor <;> simp
  all_goals exact ⟨rfl, rfl, rfl, rfl, rfl⟩

/-! ### One button -/

/-- In a legal classification each longer hold flag comes with the shorter one (R34). -/
theorem hold_flags_of_legal : ∀ k ∈ legalClasses, (k.heldLong = true → k.held = true) ∧
    (k.heldSuperLong = true → k.heldLong = true) := by decide

/-- A pressed button whose hold flags are set in order has a legal classification (R34). -/
theorem pressed_mem_legal {held long super : Bool} (hl : long = true → held = true) (hs : super = true → long = true) :
    ({ pressed := true, held := held, heldLong := long, heldSuperLong := super } : BtnClass) ∈ legalClasses := by
  revert held long super
  decide

/-- Escalation keeps the classification legal: the thresholds ascend (R223, R227). -/
theorem escalateClass_legal {c : Cfg} (hv : c.valid = true) {k : BtnClass} (h : k ∈ legalClasses) (run : Nat) :
    escalateClass c run k ∈ legalClasses := by
  obtain ⟨hl, hs⟩ := hold_flags_of_legal k h
  obtain ⟨-, -, hlong, hsuper, -⟩ := valid_thresholds hv
  refine pressed_mem_legal ?_ ?_
  · simp only [Bool.or_eq_true, decide_eq_true_eq]
    exact Or.imp hl hlong.trans
  · simp only [Bool.or_eq_true, decide_eq_true_eq]
    exact Or.imp hs hsuper.trans

/-- A release gives one of the two Released values (R221). -/
theorem releaseClass_legal (k : BtnClass) : releaseClass k ∈ legalClasses := by
  rw [releaseClass]
  split <;> decide

/-- Decay keeps the classification legal (R224). -/
theorem decayClass_legal {k : BtnClass} (h : k ∈ legalClasses) : decayClass k ∈ legalClasses := by
  rw [decayClass]
  split
  · decide
  · exact h

/-- A button step leaves the sample in PRESSED_RAW (R221, R222). -/
theorem buttonStep_pressedRaw (c : Cfg) (b : Button) (p : Bool) : (buttonStep c b p).pressedRaw = p := by
  by_cases hp : p = b.pressedRaw
  · rw [buttonStep_of_eq hp, hp]
  · rw [buttonStep_of_ne hp]

/-- A button step keeps the classification legal (R34). -/
theorem buttonStep_legal {c : Cfg} (hv : c.valid = true) {b : Button} (h : b.cls ∈ legalClasses) (p : Bool) :
    (buttonStep c b p).cls ∈ legalClasses := by
  by_cases hp : p = b.pressedRaw
  · rw [buttonStep_of_eq hp, stableClass]
    split
    · exact h
    · split
      · exact escalateClass_legal hv h _
      · exact decayClass_legal h
  · rw [buttonStep_of_ne hp, rawChangeClass]
    split
    · exact h
    · exact releaseClass_legal _

/-- A button step keeps the run length within T_SUPER (R35). -/
theorem buttonStep_run_le {c : Cfg} (hv : c.valid = true) (b : Button) (p : Bool) :
    (buttonStep c b p).run.toNat ≤ c.T_SUPER := by
  by_cases hp : p = b.pressedRaw
  · rw [buttonStep_of_eq hp, nextRun_toNat hv]
    exact min_le_right _ _
  · rw [buttonStep_of_ne hp]
    exact Nat.zero_le _

/-! ### TICK and RESET on the panel -/

/-- TICK keeps every button's rules (R34, R35). -/
theorem buttonsOk_tickEvent {s : State} (hv : s.cfg.valid = true) (h : ButtonsOk s) (ls : List Bool) :
    ButtonsOk (tickEvent ls s) := by
  simp only [ButtonsOk, tickEvent_buttons, tickEvent_cfg]
  intro b hb
  obtain ⟨i, hi, rfl⟩ := List.mem_mapIdx.1 hb
  exact ⟨buttonStep_legal hv (h _ (List.getElem_mem hi)).1 _, buttonStep_run_le hv _ _⟩

/-- After TICK the sampled lines of the buttons are their raw flags (R48, R240). -/
theorem linesOk_tickEvent {s : State} {ls : List Bool} (h : s.buttons.length ≤ ls.length) : LinesOk (tickEvent ls s) := by
  simp only [LinesOk, tickEvent_lineRaw, tickEvent_buttons, stepButtons_length]
  apply List.ext_getElem
  · simpa using h
  · intro i hi _
    have hls : i < ls.length := by simp at hi; omega
    simp [stepButtons, buttonStep_pressedRaw, hls]

/-- TICK latches a report of the right shape, with AXIS[3] = 0 (R101, R270). -/
theorem tickEvent_report_shape (ls : List Bool) (s : State) :
    (tickEvent ls s).report.outActive.length = s.channels.length ∧
    (tickEvent ls s).report.velOut.length = s.channels.length ∧
    (tickEvent ls s).report.btnMask.length = s.buttons.length ∧ (tickEvent ls s).report.axis3 = 0 := by
  simp [tickEvent, reportStep]

/-- TICK keeps the panel's part of the invariant. -/
theorem panelOk_tickEvent {s : State} {ls : List Bool} (hv : s.cfg.valid = true) (h : PanelOk s) (hl : ls.length = s.cfg.NL) :
    PanelOk (tickEvent ls s) := by
  obtain ⟨hout, hvel, hbtn, hax⟩ := tickEvent_report_shape ls s
  obtain ⟨-, -, -, -, -, hNB, -⟩ := valid_sizes hv
  have hlines : s.buttons.length ≤ ls.length := by rw [h.buttons, hl]; exact hNB
  exact
    { channels := by simpa using h.channels
      buttons := by simpa using h.buttons
      lineRaw := by simpa using hl
      outActive := by rw [hout, tickEvent_cfg]; exact h.channels
      velOut := by rw [hvel, tickEvent_cfg]; exact h.channels
      btnMask := by rw [hbtn, tickEvent_cfg]; exact h.buttons
      axis3 := hax
      classes := buttonsOk_tickEvent hv h.classes ls
      lines := linesOk_tickEvent hlines }

/-- RESET establishes the panel's part of the invariant (R361). -/
theorem panelOk_resetEvent {s : State} (hv : s.cfg.valid = true) (store0 : List Byte) : PanelOk (resetEvent store0 s) := by
  obtain ⟨-, -, -, -, -, hNB, -⟩ := valid_sizes hv
  obtain ⟨_, _, _, _, _, e⟩ := resetEvent_eq store0 s
  rw [e]
  constructor
  case classes =>
    intro b hb
    rw [List.eq_of_mem_replicate hb]
    exact ⟨by decide, Nat.zero_le _⟩
  case lines => simp [LinesOk, initRegisters, hNB]
  case axis3 => rfl
  all_goals exact List.length_replicate

/-! ### The step -/

/-- A status byte's instruction is well formed: its operand is a whole nibble (R91). -/
theorem wellFormed_of_statusRow {c : Cfg} {i : Instr} {m : MState} (h : statusRow i = some m) : WellFormed c i = true := by
  cases i
  case hostUnknownOpcode | hostInvalidPrefix | tick | reset => cases h
  all_goals rfl

/-- Every byte reads as a well-formed instruction (R91, R92). -/
theorem wellFormed_decodeByte (c : Cfg) (m : MState) (b : Byte) : WellFormed c (decodeByte m b) = true := by
  by_cases h : 128 ≤ b.toNat
  · rw [decodeByte_of_le h]
    exact wellFormed_of_statusRow (statusRow_decodeStatus b h)
  · rw [decodeByte_of_not_le h]
    cases m <;> rfl

/-- Every request reads as a well-formed instruction: a catch-all row only takes what its rule leaves it (R281, R284). -/
theorem wellFormed_decodeRequest (c : Cfg) (pfx op : Byte) (a : HostArgs) :
    WellFormed c (decodeRequest c pfx op a) = true := by
  rw [decodeRequest]
  split
  · split
    · next k _ => cases k <;> rfl
    · next hop => simpa [WellFormed] using opcodeOf_none_iff.1 hop
  · next hpfx => simpa [WellFormed] using hpfx

/-- The decoder reads well-formed instructions only: it checks the lengths of R112 and R360. -/
theorem wellFormed_of_decode {c : Cfg} {m : MState} {e : Event} {i : Instr} (h : decode c m e = .ok i) :
    WellFormed c i = true := by
  unfold decode at h
  split at h
  · split at h
    · next hlen => cases h; simpa [WellFormed] using hlen
    · cases h
  · cases h; exact wellFormed_decodeByte _ _ _
  · split at h
    · next hlen => cases h; simpa [WellFormed] using hlen
    · cases h
  · cases h; exact wellFormed_decodeRequest _ _ _ _
  · cases h
  · cases h; rfl

/-- An instruction that is fetched is the oldest presented event's, which leaves the queue. -/
theorem fetch_run {s t : State} {i : Instr} (h : fetch s = .run i t) :
    ∃ e rest, s.pending = e :: rest ∧ decode s.cfg s.parser.mstate e = .ok i ∧ t = { s with pending := rest } := by
  rw [fetch] at h
  split at h
  · cases h
  · split at h
    · cases h
    · next e rest hq =>
      split at h
      · cases h
      · split at h
        · next hd => cases h; exact ⟨e, rest, hq, hd, rfl⟩
        · cases h

/-- Every well-formed instruction keeps the invariant. -/
theorem inv_effect {i : Instr} {s : State} (h : Inv s) (hw : WellFormed s.cfg i = true) : Inv (effect i s) := by
  obtain ⟨hmirror, hparser, hmode, hpanel⟩ := inv_iff.1 h
  have hv := hmirror.valid
  have hcfg : (effect i s).cfg = s.cfg := by
    have hstep := (storeStep_effect i s).cfg
    cases i <;> exact hstep
  have hparser' : ParserOk (effect i s).cfg.SYSEX_CAP (effect i s).parser := hcfg ▸ parserOk_effect hparser
  have hmode' := modeOk_effect (i := i) hv hmode
  cases i
  case tick ls =>
    have hlen : ls.length = s.cfg.NL := by simpa [WellFormed] using hw
    exact inv_iff.2 ⟨mirror_tickEvent hmirror ls, hparser', hmode', panelOk_tickEvent hv hpanel hlen⟩
  case reset store0 =>
    have hlen : store0.length = s.cfg.STORE_SIZE := by simpa [WellFormed] using hw
    exact inv_iff.2 ⟨mirror_resetEvent hv hmirror.store hlen, hparser', hmode', panelOk_resetEvent hv store0⟩
  all_goals
    exact inv_iff.2 ⟨mirror_effect hmirror nofun, hparser', hmode', hpanel.of_kept (panelKept_effect nofun nofun)⟩

/-- A step that answers a next state held the state, or ran a well-formed instruction with its event taken from the queue and
the store calls of the event before forgotten. -/
theorem step_next {s t : State} (h : step s = .next t) :
    t = s ∨ ∃ i rest, WellFormed s.cfg i = true ∧ t = effect i (beginEvent { s with pending := rest }) := by
  rw [step] at h
  split at h
  · cases h; exact .inl rfl
  · next i u hf =>
    obtain ⟨e, rest, -, hd, rfl⟩ := fetch_run hf
    exact .inr ⟨i, rest, wellFormed_of_decode hd, (exec_next.1 h).1⟩
  · cases h

/-- Settles O60: the invariant is its four parts, every instruction's effect keeps each of them, and a step is the effect of a
well-formed instruction or holds the state. -/
theorem stepKeepsInvariant : Obligations.StepKeepsInvariant := by
  intro s t hinv hstep
  rcases step_next hstep with rfl | ⟨i, rest, hw, rfl⟩
  · exact hinv
  · have hready : Inv (beginEvent { s with pending := rest }) := hinv
    exact inv_effect hready hw

/-- The reset state's registers mirror its store (R71). -/
theorem mirror_reset : Mirror State.reset :=
  .of_coherent (by decide) ⟨defaultImage_wf, by decide⟩ (by decide)

/-- The reset state's panel is blank (R361). -/
theorem panelOk_reset : PanelOk State.reset := by
  constructor
  all_goals decide

/-- Settles O2, part by part on the one state. -/
theorem resetStateMeetsInvariant : Obligations.ResetStateMeetsInvariant :=
  inv_iff.2 ⟨mirror_reset, ⟨rfl, by decide, by decide⟩, by decide, panelOk_reset⟩

end Sys2Proof.Machine
end

section
/-! The frame of a BYTE (O14), and the step lemmas of the mode rules (O58) and of the button rules (O59). The two step lemmas
take their part of the invariant alone, so they go through the parts of O60 and not through the whole. -/
namespace Sys2Proof.Machine

/-! ### The frame of a BYTE -/

/-- A channel less the two registers a note writes, TRIG and LASTVEL (R200). -/
def Channel.unpulsed (x : Channel) : Channel := { x with trig := false, lastVel := 0 }

/-- What a BYTE that takes `s` to `t` may write beside the parser registers and the store calls, routing by MODE (R21, R142). -/
structure ByteFrame (s t : State) : Prop where
  cfg : t.cfg = s.cfg
  buttons : t.buttons = s.buttons
  mode : t.mode = s.mode
  resp : t.resp = s.resp
  lineRaw : t.lineRaw = s.lineRaw
  report : t.report = s.report
  pending : t.pending = s.pending
  awaitingReset : t.awaitingReset = s.awaitingReset
  config : { t.config with activeBank := s.config.activeBank } = s.config
  channels : t.channels.map Channel.unpulsed = s.channels.map Channel.unpulsed
  outsidePlay : s.mode.mode ≠ .play → t.channels = s.channels ∧ t.config = s.config
  withoutSwapNote : s.mode.mode ≠ .programMap → s.config.swapNote.toNat ≥ 128 →
    t.map = s.map ∧ t.store = s.store ∧ t.config = s.config
  unrouted : s.mode.mode = .programVelocity ∨ s.mode.mode = .programDuration → t.map = s.map ∧ t.store = s.store

/-- Writes to the parser registers alone are within the frame. -/
theorem byteFrame_parser (s : State) (p : ParserRegs) : ByteFrame s { s with parser := p } := by
  constructor
  case outsidePlay => exact fun _ => ⟨rfl, rfl⟩
  case withoutSwapNote => exact fun _ _ => ⟨rfl, rfl, rfl⟩
  case unrouted => exact fun _ => ⟨rfl, rfl⟩
  all_goals rfl

/-- The frame is about neither the parser registers nor the store calls, before and after. -/
theorem ByteFrame.parser_bus {s t : State} (h : ByteFrame s t) (p q : ParserRegs) (c d : List StoreOp) :
    ByteFrame { s with parser := p, bus := c } { t with parser := q, bus := d } :=
  { h with }

/-- ActivateAll writes TRIG and LASTVEL of the channels alone (R200). -/
theorem activateAll_unpulsed (n v : Data7) (s : State) :
    (activateAll n v s).channels.map Channel.unpulsed = s.channels.map Channel.unpulsed := by
  rw [activateAll_eq]
  apply List.ext_getElem (by simp)
  intro i _ _
  simp only [List.getElem_map, List.getElem_mapIdx]
  split <;> rfl

/-- In Play a note that activates channels stays within the frame (R142, R200). -/
theorem byteFrame_activateAll {s : State} (hplay : s.mode.mode = .play) (n v : Data7) : ByteFrame s (activateAll n v s) where
  cfg := rfl
  buttons := rfl
  mode := rfl
  resp := rfl
  lineRaw := rfl
  report := rfl
  pending := rfl
  awaitingReset := rfl
  config := rfl
  channels := activateAll_unpulsed n v s
  outsidePlay := fun h => absurd hplay h
  withoutSwapNote := fun _ _ => ⟨rfl, rfl, rfl⟩
  unrouted := fun _ => ⟨rfl, rfl⟩

/-- In Play a swap note that is a note stays within the frame (R142, R186). -/
theorem byteFrame_cycleBank {s : State} (hplay : s.mode.mode = .play) (hswap : s.config.swapNote.toNat < 128) :
    ByteFrame s (cycleBank s) := by
  rw [cycleBank_eq, selectBank_of_le (Nat.sub_le _ _)]
  constructor
  case outsidePlay => exact fun h => absurd hplay h
  case withoutSwapNote => exact fun _ h => absurd hswap (by omega)
  case unrouted => simp [hplay]
  all_goals rfl

/-- In ProgramMap a taught note stays within the frame: it writes MAP and STORE (R142, R174). -/
theorem byteFrame_addMapping {s : State} (hmap : s.mode.mode = .programMap) (ch : Nat) (n v : Data7) (ap : Bool) :
    ByteFrame s (addMapping ch n v ap s).2 := by
  constructor
  case withoutSwapNote => exact fun h => absurd hmap h
  case unrouted => simp [hmap]
  all_goals simp

/-- A note's number is below 128. -/
theorem zext7_toNat_lt (n : Data7) : (zext7 n).toNat < 128 := by
  rw [zext7, BitVec.toNat_setWidth]
  omega

/-- Routing a note stays within the frame, whatever MODE (R142). -/
theorem byteFrame_routeNoteOn (n v : Data7) (s : State) : ByteFrame s (routeNoteOn n v s) := by
  rw [routeNoteOn]
  split
  · next hplay =>
    rw [routePlay]
    split
    · next hswap => exact byteFrame_cycleBank hplay (hswap ▸ zext7_toNat_lt n)
    · exact byteFrame_activateAll hplay n v
  · next hmap => exact byteFrame_addMapping hmap _ n v true
  all_goals exact byteFrame_parser s s.parser

/-- A velocity byte stays within the frame: only a qualifying one writes more than the parser (R141). -/
theorem byteFrame_completeNoteOn (v : Data7) (s : State) : ByteFrame s (completeNoteOn v s) := by
  by_cases h0 : v = 0
  · rw [h0, completeNoteOn_zero]
    exact byteFrame_parser s _
  · by_cases hq : s.config.velThreshold.toNat ≤ v.toNat
    · rw [completeNoteOn_of_qualifies h0 hq]
      have hroute := byteFrame_routeNoteOn s.parser.pendingNote v
        (emit (.noteOn s.parser.pendingNote v) (recordOn s.parser.pendingNote v s))
      exact hroute.parser_bus s.parser _ s.bus _
    · rw [completeNoteOn_of_lt h0 (by omega)]
      exact byteFrame_parser s s.parser

/-- The instruction of a byte stays within the frame: every one but a velocity byte's writes the parser registers alone. -/
theorem byteFrame_effect_decodeByte (m : MState) (b : Byte) (s : State) : ByteFrame s (effect (decodeByte m b) s) := by
  by_cases hb : 128 ≤ b.toNat
  · rw [decodeByte_of_le hb]
    obtain ⟨type, len, e⟩ := statusEffect b hb s
    rw [e]
    exact byteFrame_parser s _
  · rw [decodeByte_of_not_le hb]
    cases m
    case waitingForOnVelocity =>
      exact (byteFrame_completeNoteOn (b.setWidth 7) (clearEvents s)).parser_bus s.parser _ s.bus _
    case collectSysExData =>
      simp only [decodeData, effect, afterClear_apply, appendSysex]
      split <;> exact byteFrame_parser s _
    all_goals exact byteFrame_parser s _

/-- Settles O14: a byte's instruction stays within `ByteFrame`. -/
theorem byteWritesOnlyItsRegisters : Obligations.ByteWritesOnlyItsRegisters := by
  intro s t b hexec
  obtain ⟨rfl, -⟩ := exec_next.1 hexec
  have h : ByteFrame s (effect (decodeByte s.parser.mstate b) (beginEvent s)) :=
    (byteFrame_effect_decodeByte s.parser.mstate b (beginEvent s)).parser_bus s.parser _ s.bus _
  exact ⟨h.cfg, h.buttons, h.mode, h.resp, h.lineRaw, h.report, h.pending, h.awaitingReset, h.config, h.channels,
    h.outsidePlay, h.withoutSwapNote, h.unrouted⟩

/-! ### The step lemmas of the mode rules and the button rules -/

/-- Settles O58: a next state is the instruction's effect, which keeps the mode rules. -/
theorem stepKeepsModeRules : Obligations.StepKeepsModeRules := by
  intro i s t hv hmode hexec
  obtain ⟨rfl, -⟩ := exec_next.1 hexec
  exact modeOk_effect (s := beginEvent s) hv hmode

/-- The button rules are about CFG, the buttons and the lines alone. -/
theorem PanelKept.buttonRules {s t : State} (k : PanelKept s t) (hcls : ButtonsOk s) (hlines : LinesOk s) :
    ButtonsOk t ∧ LinesOk t := by
  simp only [ButtonsOk, LinesOk, k.cfg, k.buttons, k.lineRaw]
  exact ⟨hcls, hlines⟩

/-- Every well-formed instruction keeps the button rules (R34, R35, R48): TICK steps each button and samples the lines, RESET
clears them, no other instruction writes them. -/
theorem buttonRules_effect {i : Instr} {s : State} (hv : s.cfg.valid = true) (hb : s.buttons.length = s.cfg.NB)
    (hcls : ButtonsOk s) (hlines : LinesOk s) (hw : WellFormed s.cfg i = true) :
    ButtonsOk (effect i s) ∧ LinesOk (effect i s) := by
  cases i
  case tick ls =>
    obtain ⟨-, -, -, -, -, hNB, -⟩ := valid_sizes hv
    have hlen : ls.length = s.cfg.NL := by simpa [WellFormed] using hw
    exact ⟨buttonsOk_tickEvent hv hcls ls, linesOk_tickEvent (by omega)⟩
  case reset store0 =>
    have hpanel := panelOk_resetEvent hv store0
    exact ⟨hpanel.classes, hpanel.lines⟩
  all_goals exact PanelKept.buttonRules (panelKept_effect nofun nofun) hcls hlines

/-- Settles O59: a next state is the effect of a well-formed instruction, which keeps the button rules. -/
theorem stepKeepsButtonRules : Obligations.StepKeepsButtonRules := by
  intro i s t hv hb hcls hlines hw hexec
  obtain ⟨rfl, -⟩ := exec_next.1 hexec
  exact buttonRules_effect (s := beginEvent s) hv hb hcls hlines hw

end Sys2Proof.Machine
end

section
/-! The store: the step lemma of its coherence with the cache and the configuration registers (O57), and which events change it and
by which calls (O55). -/
namespace Sys2Proof.Machine

/-! ### Coherence with the store -/

/-- Settles O57: RESET loads the registers from the store whatever they held; any other instruction finds them mirroring the store
and keeps that. -/
theorem stepKeepsCacheCoherence : Obligations.StepKeepsCacheCoherence := by
  intro i s t hv hs hw hready hexec
  obtain ⟨rfl, -⟩ := exec_next.1 hexec
  have hmirror : Mirror (effect i (beginEvent s)) := by
    by_cases hr : ∃ m, i = .reset m
    · obtain ⟨m, rfl⟩ := hr
      have hlen : m.length = s.cfg.STORE_SIZE := by simpa [WellFormed] using hw
      exact mirror_resetEvent (s := beginEvent s) hv hs hlen
    · have hbefore : Mirror (beginEvent s) := Mirror.of_coherent hv hs (hready.resolve_right hr)
      exact mirror_effect hbefore (not_exists.1 hr)
  exact ⟨hmirror.store, hmirror.coherent⟩

/-! ### Which events change the store -/

/-- From a state with no call on the bus, the store changes by the calls on the bus alone. -/
theorem StoreStep.store_eq_replay {s t : State} (h : StoreStep s t) (hb : s.bus = []) : t.store = s.store.replay t.bus := by
  obtain ⟨-, -, -, ops, hbus, hstore, -⟩ := h
  rw [hstore, hbus, hb, List.nil_append]

/-- Every instruction but RESET changes the store by its calls alone, from the state it starts in. -/
theorem storeStep_effect_of_ne_reset {i : Instr} (hr : ∀ m, i ≠ .reset m) (s : State) : StoreStep s (effect i s) := by
  have h := storeStep_effect i s
  cases i
  case reset m => exact absurd rfl (hr m)
  all_goals exact h

/-- The rows of R324 that may make a store call, and RESET. -/
def makesStoreCall : Instr → Bool
  | .dataWaitingForOnVelocity _ => true
  | .tick _ => true
  | .setHold _ => true
  | .setVelthr _ => true
  | .setSwap _ => true
  | .setHhthr _ => true
  | .setBank _ => true
  | .setMap _ => true
  | .reset _ => true
  | _ => false

/-- Every other row leaves the bus as it is (R324). -/
theorem effect_bus_of_not_makesStoreCall {i : Instr} (h : makesStoreCall i = false) (s : State) :
    (effect i s).bus = s.bus := by
  cases i
  case dataWaitingForOnVelocity | tick | setHold | setVelthr | setSwap | setHhthr | setBank | setMap | reset => cases h
  case dataCollectSysExData v =>
    simp only [effect, afterClear_apply, appendSysex]
    split <;> rfl
  case getMap | forceOutput | readLine =>
    simp only [effect, afterRespond_apply]
    split <;> rfl
  case linkErr =>
    simp only [effect, linkErrEvent]
    split <;> rfl
  all_goals rfl

/-- The nine rows, by name. -/
theorem cases_of_makesStoreCall {i : Instr} (h : makesStoreCall i = true) :
    (∃ v, i = .dataWaitingForOnVelocity v) ∨ (∃ ls, i = .tick ls) ∨ (∃ a, i = .setHold a) ∨ (∃ a, i = .setVelthr a) ∨
    (∃ a, i = .setSwap a) ∨ (∃ a, i = .setHhthr a) ∨ (∃ a, i = .setBank a) ∨ (∃ a, i = .setMap a) ∨
    (∃ m, i = .reset m) := by
  cases i
  case dataWaitingForOnVelocity | tick | setHold | setVelthr | setSwap | setHhthr | setBank | setMap | reset => simp
  all_goals cases h

/-- Settles O55: an instruction is a store step from the state its event begins in, RESET's from the power-up store, and its bus
stays empty unless it is one of the nine rows. -/
theorem storeChangesOnlyByIssuedWrites : Obligations.StoreChangesOnlyByIssuedWrites := by
  intro i s t hexec
  obtain ⟨rfl, -⟩ := exec_next.1 hexec
  refine ⟨fun hr => ?_, ?_, fun hbus => cases_of_makesStoreCall ?_⟩
  · exact (storeStep_effect_of_ne_reset hr (beginEvent s)).store_eq_replay rfl
  · rintro m rfl
    exact (storeStep_resetEvent m (beginEvent s)).store_eq_replay rfl
  · by_contra hcall
    exact hbus (effect_bus_of_not_makesStoreCall (by simpa using hcall) (beginEvent s))

end Sys2Proof.Machine
end

section
/-! The encoding: an instruction stands for exactly the event it is encoded to (O49, O50), and six words read by it (O51). -/
namespace Sys2Proof.Machine

/-! ### Bytes -/

/-- The type nibble of a status byte (R91). -/
@[simp] theorem extractType_statusByte (t n : Nibble) : (statusByte t n).extractLsb' 4 4 = t := by
  revert t n; decide

/-- The low nibble of a status byte (R91). -/
@[simp] theorem extractChannel_statusByte (t n : Nibble) : (statusByte t n).extractLsb' 0 4 = n := by
  revert t n; decide

/-- A byte is the status byte of its two nibbles. -/
theorem statusByte_extract (b : Byte) : statusByte (b.extractLsb' 4 4) (b.extractLsb' 0 4) = b := by
  revert b; decide

/-- A type nibble from 8 up makes a status byte. -/
theorem le_statusByte : ∀ t n : Nibble, 8 ≤ t.toNat → 128 ≤ (statusByte t n).toNat := by decide

/-- The type nibble of a byte from 128 up. -/
theorem le_extractType : ∀ b : Byte, 128 ≤ b.toNat → 8 ≤ (b.extractLsb' 4 4).toNat := by decide

/-- A status byte is read in every parser state alike. -/
theorem decodeByte_statusByte {t : Nibble} (h : 8 ≤ t.toNat) (m : MState) (n : Nibble) :
    decodeByte m (statusByte t n) = decodeStatus (statusByte t n) :=
  decodeByte_of_le (le_statusByte t n h) m

/-- A data byte's value is below 128 (R92). -/
theorem dataByte_lt : ∀ v : Data7, ¬ 128 ≤ (dataByte v).toNat := by decide

/-- A data byte carries its value (R92). -/
@[simp] theorem setWidth_dataByte (v : Data7) : (dataByte v).setWidth 7 = v := by
  revert v; decide

/-- A byte below 128 is the data byte of its low seven bits. -/
theorem dataByte_setWidth : ∀ b : Byte, ¬ 128 ≤ b.toNat → dataByte (b.setWidth 7) = b := by decide

/-- A data byte is read by the parser state alone (R139). -/
theorem decodeByte_dataByte (m : MState) (v : Data7) : decodeByte m (dataByte v) = decodeData m v := by
  rw [decodeByte_of_not_le (dataByte_lt v), setWidth_dataByte]

/-! ### What an instruction stands for -/

/-- The instruction stands for the event in the parser state: the event is its encoding, its operands are those of an event of
R90, and a data byte's row is the one the state selects. -/
structure StandsFor (c : Cfg) (m : MState) (e : Event) (i : Instr) : Prop where
  encoded : encode c i = e
  wellFormed : WellFormed c i = true
  selected : i.dataState = none ∨ i.dataState = some m

/-- A system message stands for its byte 0xFn (R93). -/
theorem standsFor_decodeSystem (c : Cfg) (m : MState) (n : Nibble) :
    StandsFor c m (.byte (statusByte 0xF n)) (decodeSystem n) := by
  -- each of the sixteen low nibbles is assigned
  obtain ⟨k⟩ := n
  fin_cases k <;> exact ⟨rfl, rfl, .inl rfl⟩

/-- A status byte's instruction stands for it: a channel message by its type nibble, a system message by the low one. -/
theorem standsFor_decodeStatus (c : Cfg) (m : MState) {b : Byte} (hb : 128 ≤ b.toNat) :
    StandsFor c m (.byte b) (decodeStatus b) := by
  have htype := le_extractType b hb
  have hnibbles := statusByte_extract b
  generalize hi : decodeStatus b = i
  simp only [decodeStatus] at hi
  generalize b.extractLsb' 4 4 = t, b.extractLsb' 0 4 = n at *
  subst b
  split_ifs at hi
  case neg =>
    obtain rfl : t = 0xF := by bv_omega
    exact hi ▸ standsFor_decodeSystem c m n
  all_goals
    subst t i
    exact ⟨rfl, rfl, .inl rfl⟩

/-- The row that the parser state selects stands for the data byte (R92, R139). -/
theorem standsFor_decodeData (c : Cfg) (m : MState) (v : Data7) : StandsFor c m (.byte (dataByte v)) (decodeData m v) := by
  cases m <;> exact ⟨rfl, rfl, .inr rfl⟩

/-- Every byte's instruction stands for it. -/
theorem standsFor_decodeByte (c : Cfg) (m : MState) (b : Byte) : StandsFor c m (.byte b) (decodeByte m b) := by
  by_cases hb : 128 ≤ b.toNat
  · rw [decodeByte_of_le hb]
    exact standsFor_decodeStatus c m hb
  · rw [decodeByte_of_not_le hb]
    simpa only [dataByte_setWidth b hb] using standsFor_decodeData c m (b.setWidth 7)

/-- A named operation stands for its request with CMD_PREFIX (R104). -/
theorem standsFor_instr (c : Cfg) (m : MState) (a : HostArgs) (k : HostOp) :
    StandsFor c m (hostRequest c k a) (k.instr a) := by
  cases k <;> exact ⟨rfl, rfl, .inl rfl⟩

/-- A request's instruction stands for it: req[0] is tested first, then the opcode (R280, R341). -/
theorem standsFor_decodeRequest (c : Cfg) (m : MState) (pfx op : Byte) (a : HostArgs) :
    StandsFor c m (.hostreq (requestBytes pfx op a)) (decodeRequest c pfx op a) := by
  unfold decodeRequest
  split
  case isTrue hpfx =>
    subst hpfx
    cases hop : opcodeOf c op with
    | some k =>
      obtain rfl := code_of_opcodeOf hop
      exact standsFor_instr c m a k
    | none => exact ⟨rfl, by simpa [WellFormed] using opcodeOf_none_iff.1 hop, .inl rfl⟩
  case isFalse hpfx => exact ⟨rfl, by simpa [WellFormed] using hpfx, .inl rfl⟩

/-- What an event decodes to stands for it. -/
theorem standsFor_of_decode {c : Cfg} {m : MState} {e : Event} {i : Instr} (h : decode c m e = .ok i) : StandsFor c m e i := by
  revert h
  fun_cases decode c m e <;> rintro ⟨⟩
  case case1 store0 hlen => exact ⟨rfl, by simpa [WellFormed] using hlen, .inl rfl⟩
  case case3 b => exact standsFor_decodeByte c m b
  case case4 lines hlen => exact ⟨rfl, by simpa [WellFormed] using hlen, .inl rfl⟩
  case case6 pfx op sq p0 p1 p2 p3 p4 => exact standsFor_decodeRequest c m pfx op ⟨sq, p0, p1, p2, p3, p4⟩
  case case8 => exact ⟨rfl, rfl, .inl rfl⟩

/-- Settles O50: what an event decodes to stands for it. -/
theorem encodeAfterDecode : Obligations.EncodeAfterDecode := by
  intro c m e i h
  obtain ⟨henc, hwf, hsel⟩ := standsFor_of_decode h
  exact ⟨henc, hwf, hsel⟩

/-! ### Decoding what an instruction stands for -/

/-- A data row is the row of the state that selects it, on its value. -/
theorem eq_decodeData_of_dataState {i : Instr} {m : MState} (h : i.dataState = some m) : ∃ v, i = decodeData m v := by
  cases i <;> cases h <;> exact ⟨_, rfl⟩

/-- A data row is read back in the state that selects it. -/
theorem decode_encode_of_dataState {i : Instr} {m : MState} (h : i.dataState = some m) (c : Cfg) :
    decode c m (encode c i) = .ok i := by
  obtain ⟨v, rfl⟩ := eq_decodeData_of_dataState h
  rw [(standsFor_decodeData c m v).encoded, decode, decodeByte_dataByte]

/-- A status byte's instruction is read back in every state. -/
theorem decode_encode_of_statusRow {i : Instr} {next : MState} (h : statusRow i = some next) (c : Cfg) (m : MState) :
    decode c m (encode c i) = .ok i := by
  cases i
  case noteOff | noteOn | polyAftertouch | controlChange | programChange | channelAftertouch | pitchBend =>
    simp [encode, decode, decodeByte_statusByte, decodeStatus]
  case sysexStart | quarterFrame | songPosition | songSelect | sysexEnd | timingClock | activeSensing | undefF4 | undefF5
      | tuneRequest | undefF9 | midiStart | midiContinue | midiStop | undefFD | systemReset => rfl
  all_goals cases h

/-- The request of a named operation is read back, the opcode numbers being distinct (R104). -/
theorem decode_hostRequest {c : Cfg} (h : c.opcodes.toList.Nodup) (m : MState) (k : HostOp) (a : HostArgs) :
    decode c m (hostRequest c k a) = .ok (k.instr a) := by
  simp [decode, hostRequest, requestBytes, decodeRequest, opcodeOf_code h]

/-- An instruction that no parser state selects is read back in every state. -/
theorem decode_encode_of_dataState_none {c : Cfg} {i : Instr} (hv : c.valid = true) (hw : WellFormed c i = true)
    (h : i.dataState = none) (m : MState) : decode c m (encode c i) = .ok i := by
  cases i
  case hostUnknownOpcode op a =>
    have hop : opcodeOf c op = none := opcodeOf_none_iff.2 (by simpa [WellFormed] using hw)
    simp [encode, decode, requestBytes, decodeRequest, hop]
  case hostInvalidPrefix pfx op a =>
    have hpfx : pfx ≠ c.CMD_PREFIX := by simpa [WellFormed] using hw
    simp [encode, decode, requestBytes, decodeRequest, hpfx]
  case tick lines =>
    have hlen : lines.length = c.NL := by simpa [WellFormed] using hw
    simp [encode, decode, hlen]
  case reset store0 =>
    have hlen : store0.length = c.STORE_SIZE := by simpa [WellFormed] using hw
    simp [encode, decode, hlen]
  case linkErr => rfl
  case getVersion | getFeatures | enterCmdMode | exitCmdMode | getHold | setHold | getVelthr | setVelthr | getSwap | setSwap
      | getHhthr | setHhthr | getBank | setBank | getMap | setMap | forceOutput | readLine =>
    exact decode_hostRequest (valid_opcodes_nodup hv) m _ _
  case dataWaitingForStatus | dataWaitingForNoteOn | dataWaitingForOnVelocity | dataWaitingForNoteOff
      | dataWaitingForOffVelocity | dataWaitingForCCData1 | dataWaitingForCCData2 | dataWaitingForPedalData
      | dataWaitingForData1Only | dataWaitingForData1Of2 | dataWaitingForData2 | dataCollectSysExData => cases h
  all_goals exact decode_encode_of_statusRow rfl c m

/-- Settles O49: a data row is read back in the state that selects it, any other instruction in every state. -/
theorem decodeAfterEncode : Obligations.DecodeAfterEncode := by
  rintro c m i hv hw (hnone | hsome)
  · exact decode_encode_of_dataState_none hv hw hnone m
  · exact decode_encode_of_dataState hsome c

/-! ### Words -/

/-- Settles O51: each word is the encoding of its instruction under REFCFG, and is read back. -/
theorem decodedWords : Obligations.DecodedWords := by
  have hv : refcfg.valid = true := by decide
  exact ⟨decodeAfterEncode refcfg _ (.noteOn 3) hv rfl (.inl rfl), decodeAfterEncode refcfg _ .sysexEnd hv rfl (.inl rfl),
    decodeAfterEncode refcfg _ (.dataWaitingForNoteOn 38) hv rfl (.inr rfl),
    decodeAfterEncode refcfg _ (.setMap ⟨2, 3, 0, 0x2D, 0, 0⟩) hv rfl (.inl rfl),
    decodeAfterEncode refcfg _ (.hostUnknownOpcode 0x7F ⟨7, 0, 0, 0, 0, 0⟩) hv rfl (.inl rfl),
    decodeAfterEncode refcfg _ (.hostInvalidPrefix 0 0 ⟨7, 0, 0, 0, 0, 0⟩) hv rfl (.inl rfl)⟩

end Sys2Proof.Machine
end

section
/-! The MidiParser (40_midi_parser.md): the status and data bytes that touch the parser registers alone (O8 to O11, O15), and the
next state and the output list of every byte (O12, O13). -/
namespace Sys2Proof.Machine

/-! ### Which rows answer a next state -/

/-- A row that makes no store call answers its operation's state. -/
theorem exec_of_not_makesStoreCall {i : Instr} (h : makesStoreCall i = false) (s : State) :
    exec i s = .next (effect i (beginEvent s)) :=
  exec_of_bus_nil (effect_bus_of_not_makesStoreCall h (beginEvent s))

/-- Under a valid CFG every instruction but RESET answers its operation's state: the addresses of its store calls exist. -/
theorem exec_of_ne_reset {i : Instr} (hr : ∀ m, i ≠ .reset m) {s : State} (hv : s.cfg.valid = true) :
    exec i s = .next (effect i (beginEvent s)) := by
  obtain ⟨hcfg, -, -, ops, hbus, -, haddr⟩ := storeStep_effect_of_ne_reset hr (beginEvent s)
  rw [beginEvent_bus, List.nil_append] at hbus
  exact exec_next.2 ⟨rfl, by rw [hbus, hcfg]; exact haddr hv⟩

/-- No byte stands for a RESET. -/
theorem decodeByte_ne_reset (m : MState) (b : Byte) (store0 : List Byte) : decodeByte m b ≠ .reset store0 := by
  intro e
  have henc := (standsFor_decodeByte refcfg m b).encoded
  rw [e] at henc
  cases henc

/-! ### Status bytes -/

/-- The byte of a status row decodes to it in every parser state, and the row answers its operation's state. -/
theorem statusByte_decoded_and_executed {i : Instr} {next : MState} {b : Byte} (hrow : statusRow i = some next)
    (henc : encode refcfg i = .byte b) (m : MState) (s : State) :
    decodeByte m b = i ∧ exec i s = .next (effect i (beginEvent s)) := by
  constructor
  · have hback := decode_encode_of_statusRow hrow refcfg m
    rw [henc] at hback
    exact Except.ok.inj hback
  · obtain ⟨type, len, e⟩ := statusEffect_of_row hrow (beginEvent s)
    exact exec_of_bus_nil (by rw [e]; rfl)

/-- Settles O8: each is a status row, and `handledStatus` writes LAST_TYPE and MSTATE alone. -/
theorem handledStatusBytes : Obligations.HandledStatusBytes := by
  intro n m s after
  refine ⟨?_, ?_, ?_, ?_, ?_, ?_, ?_, ?_, ?_, ?_, ?_, ?_⟩
  all_goals exact statusByte_decoded_and_executed rfl rfl m s

/-- Settles O9: each is a status row, and `noopStatus` writes MSTATE alone. -/
theorem noOpStatusBytes : Obligations.NoOpStatusBytes := by
  intro m s after
  refine ⟨?_, ?_, ?_, ?_, ?_, ?_, ?_, ?_, ?_, ?_, ?_⟩
  all_goals exact statusByte_decoded_and_executed rfl rfl m s

/-! ### Data bytes without routing -/

/-- Settles O10: none of the nine rows makes a store call, and the operation of each is a write to the parser registers. -/
theorem dataByteEffects : Obligations.DataByteEffects := by
  intro d s after p
  refine ⟨?_, ?_, ?_, ?_, ?_, ?_, ?_, ?_, ?_⟩
  all_goals exact exec_of_not_makesStoreCall rfl s

/-- With room a payload byte is written at SYSEX_LEN (R150). -/
theorem appendSysex_of_lt {s : State} (h : s.parser.sysexLen < s.cfg.SYSEX_CAP) (d : Data7) :
    appendSysex d s =
      { s with parser := { s.parser with
          sysexBuf := s.parser.sysexBuf.set s.parser.sysexLen (zext7 d), sysexLen := s.parser.sysexLen + 1 } } :=
  if_pos h

/-- Once the buffer is full a payload byte is dropped (R150). -/
theorem appendSysex_of_le {s : State} (h : s.cfg.SYSEX_CAP ≤ s.parser.sysexLen) (d : Data7) : appendSysex d s = s :=
  if_neg (Nat.not_lt.2 h)

/-- The bounded append leaves EVENTS and MSTATE (R150). -/
theorem appendSysex_events_mstate (d : Data7) (s : State) :
    (appendSysex d s).parser.events = s.parser.events ∧ (appendSysex d s).parser.mstate = s.parser.mstate := by
  rw [appendSysex]
  split <;> exact ⟨rfl, rfl⟩

/-- Settles O11, by whether the buffer has room. -/
theorem sysexPayloadByte : Obligations.SysexPayloadByte := by
  intro d s hcap
  refine ⟨_, exec_of_not_makesStoreCall rfl s, ?_⟩
  rw [effect, afterClear_apply]
  by_cases hroom : s.parser.sysexLen < s.cfg.SYSEX_CAP
  · rw [appendSysex_of_lt (s := clearEvents (beginEvent s)) hroom]
    refine ⟨rfl, rfl, rfl, rfl, List.length_set.trans hcap, fun _ => ⟨rfl, ?_, fun i hi => ?_⟩, fun hfull => ?_⟩
    · exact List.getElem?_set_self (hcap ▸ hroom)
    · exact List.getElem?_set_ne hi.symm
    · omega
  · rw [appendSysex_of_le (s := clearEvents (beginEvent s)) (Nat.not_lt.1 hroom)]
    exact ⟨rfl, rfl, rfl, rfl, hcap, fun h => absurd h hroom, fun _ => ⟨rfl, rfl⟩⟩

/-! ### The next state and the output list of every byte -/

/-- The velocity byte's output list (R141): by velocity 0, a qualifying velocity, any other. -/
theorem completeNoteOn_events (v : Data7) (s : State) :
    (completeNoteOn v s).parser.events = s.parser.events ++ dataEmits s v .waitingForOnVelocity := by
  by_cases h0 : v = 0
  · rw [h0, completeNoteOn_zero]
    rfl
  · by_cases hq : s.config.velThreshold.toNat ≤ v.toNat
    · rw [completeNoteOn_of_qualifies h0 hq, routeNoteOn_parser, dataEmits, if_neg h0, if_pos hq]
      rfl
    · rw [completeNoteOn_of_lt h0 (Nat.not_le.1 hq), dataEmits, if_neg h0, if_neg hq, List.append_nil]

/-- A data byte's output list, in every parser state (R121). -/
theorem effect_decodeData_events (m : MState) (d : Data7) (s : State) :
    (effect (decodeData m d) s).parser.events = dataEmits s d m := by
  cases m
  case waitingForOnVelocity => exact completeNoteOn_events d (clearEvents s)
  case collectSysExData => exact (appendSysex_events_mstate d (clearEvents s)).1
  all_goals rfl

/-- A data byte's next state is R156's. -/
theorem effect_decodeData_mstate (d : Data7) (s : State) :
    (effect (decodeData s.parser.mstate d) s).parser.mstate = dataNext s.cfg d s.parser.mstate := by
  generalize hm : s.parser.mstate = m
  cases m
  case collectSysExData => exact (appendSysex_events_mstate d (clearEvents s)).2.trans hm
  case waitingForStatus => exact hm
  all_goals rfl

/-- Settles O12: a status byte's next state is `statusEffect`'s, a data byte's `effect_decodeData_mstate`'s. -/
theorem byteNextStateTable : Obligations.ByteNextStateTable := by
  intro s b hv
  refine ⟨_, exec_of_ne_reset (decodeByte_ne_reset _ b) hv, ?_⟩
  rw [nextMState]
  split
  case isTrue hb =>
    rw [decodeByte_of_le hb]
    obtain ⟨type, len, e⟩ := statusEffect b hb (beginEvent s)
    rw [e]
  case isFalse hb =>
    rw [decodeByte_of_not_le hb]
    exact effect_decodeData_mstate (b.setWidth 7) (beginEvent s)

/-- A byte's output list holds at most one event value. -/
theorem byteEmits_length_le (s : State) (b : Byte) : (byteEmits s b).length ≤ 1 := by
  rw [byteEmits]
  split
  · exact Nat.zero_le 1
  · cases s.parser.mstate
    case waitingForOnVelocity =>
      simp only [dataEmits]
      split_ifs <;> simp
    all_goals simp [dataEmits]

/-- Settles O13: a status byte emits nothing, a data byte what `effect_decodeData_events` says. -/
theorem byteEmitsAtMostOneEvent : Obligations.ByteEmitsAtMostOneEvent := by
  intro s t b hexec
  obtain ⟨rfl, -⟩ := exec_next.1 hexec
  have hevents : (effect (decodeByte s.parser.mstate b) (beginEvent s)).parser.events = byteEmits s b := by
    rw [byteEmits]
    split
    case isTrue hb =>
      rw [decodeByte_of_le hb]
      obtain ⟨type, len, e⟩ := statusEffect b hb (beginEvent s)
      rw [e]
    case isFalse hb =>
      rw [decodeByte_of_not_le hb]
      exact effect_decodeData_events s.parser.mstate (b.setWidth 7) (beginEvent s)
  exact ⟨hevents, hevents ▸ byteEmits_length_le s b⟩

end Sys2Proof.Machine
end

section
/-! A Note-On's two data bytes (R140, R141) and what routing a qualifying note does by MODE (R142): nothing (O15), activation
(O16, O17), the swap of the bank (O18), teaching (O19). -/
namespace Sys2Proof.Machine

/-! ### The velocity byte -/

/-- A velocity is positive unless it is 0. -/
theorem velocity_pos_iff (v : Data7) : 0 < v.toNat ↔ v ≠ 0 := by bv_omega

/-- The note of a qualifying velocity byte, recorded and emitted and not routed yet (R141). -/
def noteOnTaken (v : Data7) (s : State) : State :=
  { s with
    bus := []
    parser := { s.parser with
      events := [.noteOn s.parser.pendingNote v], onNote := s.parser.pendingNote, onVel := v, onValid := true } }

/-- A qualifying velocity byte routes the pending note (R141). -/
theorem effect_velocity_of_qualifies {v : Data7} {s : State} (h0 : v ≠ 0) (hq : s.config.velThreshold.toNat ≤ v.toNat) :
    effect (.dataWaitingForOnVelocity v) (beginEvent s) =
      setMState .waitingForNoteOn (routeNoteOn s.parser.pendingNote v (noteOnTaken v s)) := by
  rw [effect, afterClear_apply, completeNoteOn_of_qualifies (s := clearEvents (beginEvent s)) h0 hq]
  rfl

/-- A velocity byte that does not qualify keeps the channels (R141). -/
theorem effect_velocity_channels_of_not_qualifies {v : Data7} {s : State}
    (h : ¬ (v ≠ 0 ∧ s.config.velThreshold.toNat ≤ v.toNat)) :
    (effect (.dataWaitingForOnVelocity v) s).channels = s.channels := by
  rw [effect, afterClear_apply]
  by_cases h0 : v = 0
  · rw [h0, completeNoteOn_zero]
    rfl
  · rw [completeNoteOn_of_lt (s := clearEvents s) h0 (Nat.not_le.1 fun hq => h ⟨h0, hq⟩)]
    rfl

/-! ### Routing by MODE -/

/-- In Play the swap note cycles the active bank (R142). -/
theorem routeNoteOn_swapNote_play {s : State} (hplay : s.mode.mode = .play) {n : Data7} (hn : zext7 n = s.config.swapNote)
    (v : Data7) : routeNoteOn n v s = cycleBank s := by
  rw [routeNoteOn, hplay]
  exact if_pos hn

/-- In Play any other note activates the channels that hold it (R142). -/
theorem routeNoteOn_otherNote_play {s : State} (hplay : s.mode.mode = .play) {n : Data7} (hn : zext7 n ≠ s.config.swapNote)
    (v : Data7) : routeNoteOn n v s = activateAll n v s := by
  rw [routeNoteOn, hplay]
  exact if_neg hn

/-- In ProgramMap the note is added to the selected channel (R142). -/
theorem routeNoteOn_programMap {s : State} (hmap : s.mode.mode = .programMap) (n v : Data7) :
    routeNoteOn n v s = (addMapping s.mode.progCh.toNat n v true s).2 := by
  rw [routeNoteOn, hmap]

/-- In ProgramVelocity and ProgramDuration nothing is routed (R142). -/
theorem routeNoteOn_unrouted {s : State} (h : s.mode.mode = .programVelocity ∨ s.mode.mode = .programDuration) (n v : Data7) :
    routeNoteOn n v s = s := by
  rcases h with h | h <;> rw [routeNoteOn, h]

/-- The swap note is compared as a byte (R322). -/
theorem zext7_eq_iff (n : Data7) (b : Byte) : zext7 n = b ↔ n.toNat = b.toNat := by
  rw [zext7, BitVec.toNat_eq, BitVec.toNat_setWidth_of_le (by decide)]

/-! ### Nothing routed -/

/-- Settles O15: the note row, and the three kinds of velocity byte that write the parser registers alone. -/
theorem noteOnDataBytesWithoutRouting : Obligations.NoteOnDataBytesWithoutRouting := by
  intro d v s after p
  refine ⟨exec_of_not_makesStoreCall rfl s, ?_, ?_, ?_⟩
  · rintro rfl
    exact exec_of_bus_nil rfl
  · intro h0 hlt
    have heffect : effect (.dataWaitingForOnVelocity v) (beginEvent s) = after p := by
      rw [effect, afterClear_apply, completeNoteOn_of_lt (s := clearEvents (beginEvent s)) h0 hlt]
      rfl
    exact heffect ▸ exec_of_bus_nil (by rw [heffect])
  · intro h0 hq hmode
    have heffect := effect_velocity_of_qualifies h0 hq
    rw [routeNoteOn_unrouted (s := noteOnTaken v s) hmode] at heffect
    exact (exec_of_bus_nil (by rw [heffect]; rfl)).trans (congrArg _ heffect)

/-! ### Activation -/

/-- Settles O16: such a note is routed to `activateAll`, which activates exactly the mapped channels. -/
theorem qualifyingNoteActivatesMappedChannels : Obligations.QualifyingNoteActivatesMappedChannels := by
  intro v s h0 hq hplay hswap
  have hn : zext7 s.parser.pendingNote ≠ s.config.swapNote := mt (zext7_eq_iff _ _).1 hswap
  have heffect := effect_velocity_of_qualifies h0 hq
  rw [routeNoteOn_otherNote_play (s := noteOnTaken v s) hplay hn, activateAll_eq] at heffect
  exact (exec_of_bus_nil (by rw [heffect]; rfl)).trans (congrArg _ heffect)

/-- The state after a Note-On's status and note bytes (R125, R140). -/
def noteAwaitingVelocity (n : Data7) (s : State) : State :=
  { s with
    bus := []
    parser := { s.parser with
      events := [], lastType := 0x90, pendingNote := n, offValid := false, mstate := .waitingForOnVelocity } }

/-- A Note-On's first two bytes leave its note pending, and write the parser registers alone. -/
theorem noteAwaitingVelocity_of_exec {k : Nibble} {n : Data7} {s s1 s2 : State} (hstatus : exec (.noteOn k) s = .next s1)
    (hnote : exec (decodeByte s1.parser.mstate (dataByte n)) s1 = .next s2) : s2 = noteAwaitingVelocity n s := by
  obtain ⟨rfl, -⟩ := exec_next.1 hstatus
  rw [decodeByte_dataByte] at hnote
  exact (exec_next.1 hnote).1

/-- Settles O17: the velocity byte runs in `noteAwaitingVelocity`; its output list is `dataEmits`'s and its activation O16's. -/
theorem noteOnSequenceActivates : Obligations.NoteOnSequenceActivates := by
  intro k n v s s1 s2 t hstatus hnote hvel
  obtain rfl := noteAwaitingVelocity_of_exec hstatus hnote
  replace hvel : exec (decodeByte .waitingForOnVelocity (dataByte v)) (noteAwaitingVelocity n s) = .next t := hvel
  rw [decodeByte_dataByte] at hvel
  have heffect := (exec_next.1 hvel).1
  have hevents : t.parser.events =
      if v = 0 then [.noteOff n] else if s.config.velThreshold.toNat ≤ v.toNat then [.noteOn n v] else [] :=
    heffect ▸ effect_decodeData_events .waitingForOnVelocity v (beginEvent (noteAwaitingVelocity n s))
  have hkept (h : ¬ (v ≠ 0 ∧ s.config.velThreshold.toNat ≤ v.toNat)) : t.channels = s.channels :=
    heffect ▸ effect_velocity_channels_of_not_qualifies (s := beginEvent (noteAwaitingVelocity n s)) h
  simp only [velocity_pos_iff]
  refine ⟨?_, ?_, hkept, ?_⟩
  · rw [hevents]
    split_ifs with h0 hq
    · exact iff_of_false (by simp) fun h => h.1 h0
    · exact iff_of_true rfl ⟨h0, hq⟩
    · exact iff_of_false (by simp) fun h => hq h.2
  · intro h0
    exact ⟨hevents.trans (if_pos h0), hkept fun h => h.1 h0⟩
  · intro h0 hq hplay hswap ch x hx
    have hfired := qualifyingNoteActivatesMappedChannels v (noteAwaitingVelocity n s) h0 hq hplay hswap
    obtain rfl := Host.Outcome.next.inj (hvel.symm.trans hfired)
    exact List.getElem?_mapIdx.trans (congrArg _ hx)

/-! ### The swap note -/

/-- An entry of a loaded bank is the store's byte at its address (R79). -/
theorem loadBank_getD {c : Cfg} (m : Memory) (b : Nat) {ch sl : Nat} (hc : ch < c.C) (hs : sl < c.S) :
    ((loadBank c m b).getD ch []).getD sl 0 = m.read (slotAddr c b ch sl) := by
  simp [loadBank_eq, hc, hs]

/-- The other bank's number, as ACTIVE_BANK holds it. -/
theorem ofNat_otherBank : ∀ b : BitVec 1, BitVec.ofNat 1 (1 - bankNum b) = 1 - b := by decide

/-- Settles O18: such a note is routed to `cycleBank`, which is `selectBank` of the other bank. -/
theorem swapNoteCyclesBank : Obligations.SwapNoteCyclesBank := by
  intro v s hv hs h0 hq hplay hswap
  have hn : zext7 s.parser.pendingNote = s.config.swapNote := (zext7_eq_iff _ _).2 hswap
  refine ⟨_, exec_of_ne_reset (by rintro _ ⟨⟩) hv, ?_⟩
  rw [effect_velocity_of_qualifies h0 hq, routeNoteOn_swapNote_play (s := noteOnTaken v s) hplay hn, cycleBank_eq,
    selectBank_of_le (Nat.sub_le _ _)]
  refine ⟨rfl, ?_, loadBank_length _ _ _, loadBank_row_length _ _ _, fun ch hc sl hsl => loadBank_getD _ _ hc hsl, ?_,
    fun x => read_write hs.1 _ _ _⟩
  · simp only [setMState_config, ofNat_otherBank]
    rfl
  · simp only [setMState_bus, storesOf_append, storesOf_gets]
    rfl

/-! ### Teaching -/

/-- `set` on a channel that exists writes its row; a slot that does not exist leaves it (R172). -/
theorem mapSet_row {ch sl : Nat} {s : State} (hc : ch < s.cfg.C) (hrow : (s.map.getD ch []).length = s.cfg.S) (n : Byte) :
    (mapSet ch sl n s).map.getD ch [] = (s.map.getD ch []).set sl n := by
  by_cases hs : sl < s.cfg.S
  · rw [mapSet_of_lt ⟨hc, hs⟩]
    cases h : s.map[ch]? <;> simp [cacheSet, h]
  · rw [mapSet_of_not_lt fun h => hs h.2, List.set_eq_of_length_le (by omega)]

/-- `set` leaves every other channel (R172). -/
theorem mapSet_map_of_ne {k ch : Nat} (hk : k ≠ ch) (sl : Nat) (n : Byte) (s : State) :
    (mapSet ch sl n s).map[k]? = s.map[k]? := by
  rw [mapSet]
  split
  · simp [storeWrite, cacheSet, hk.symm]
  · rfl

/-- `set` on a channel that exists makes the StoreWrite of its slot, if there is one (R172). -/
theorem mapSet_bus {ch : Nat} {s : State} (hc : ch < s.cfg.C) (sl : Nat) (n : Byte) :
    (mapSet ch sl n s).bus =
      s.bus ++ if sl < s.cfg.S then [.set (slotAddr s.cfg (bankNum s.config.activeBank) ch sl) n] else [] := by
  split
  · next hs => rw [mapSet_of_lt ⟨hc, hs⟩]
  · next hs => rw [mapSet_of_not_lt fun h => hs h.2, List.append_nil]

/-- `set` on a channel that exists changes the byte of its slot, if there is one (R172). -/
theorem mapSet_read {ch : Nat} {s : State} (hc : ch < s.cfg.C) (hwf : s.store.wf = true) (sl : Nat) (n : Byte) (a : Nat) :
    (mapSet ch sl n s).store.read a =
      if sl < s.cfg.S ∧ a = slotAddr s.cfg (bankNum s.config.activeBank) ch sl then n else s.store.read a := by
  by_cases hs : sl < s.cfg.S
  · rw [mapSet_of_lt ⟨hc, hs⟩, read_write hwf]
    simp only [hs, true_and]
  · rw [mapSet_of_not_lt fun h => hs h.2, if_neg fun h => hs h.1]

/-- `set` keeps the store canonical. -/
theorem mapSet_wf {s : State} (hwf : s.store.wf = true) (ch sl : Nat) (n : Byte) : (mapSet ch sl n s).store.wf = true := by
  rw [mapSet]
  split
  · exact wf_write hwf _ _
  · exact hwf

section
variable {ch : Nat} {s : State} (hc : ch < s.cfg.C) (i : Nat) (n u : Byte)
include hc

/-- Two neighbouring slots of a row, written in order. -/
theorem mapSet_mapSet_row (hrow : (s.map.getD ch []).length = s.cfg.S) :
    (mapSet ch (i + 1) u (mapSet ch i n s)).map.getD ch [] = ((s.map.getD ch []).set i n).set (i + 1) u := by
  have hfirst := mapSet_row (sl := i) hc hrow n
  rw [mapSet_row (by rwa [mapSet_cfg]) (by rw [hfirst, List.length_set, hrow, mapSet_cfg]), hfirst]

/-- The StoreWrites of two neighbouring slots, of which the second may not exist. -/
theorem mapSet_mapSet_bus (hi : i < s.cfg.S) :
    (mapSet ch (i + 1) u (mapSet ch i n s)).bus =
      s.bus ++ .set (slotAddr s.cfg (bankNum s.config.activeBank) ch i) n ::
        if i + 1 < s.cfg.S then [.set (slotAddr s.cfg (bankNum s.config.activeBank) ch (i + 1)) u] else [] := by
  rw [mapSet_bus (by rwa [mapSet_cfg]), mapSet_bus hc, if_pos hi, mapSet_cfg, mapSet_config, List.append_assoc]
  rfl

/-- The bytes of two neighbouring slots, of which the second may not exist. -/
theorem mapSet_mapSet_read (hwf : s.store.wf = true) (hi : i < s.cfg.S) (a : Nat) :
    (mapSet ch (i + 1) u (mapSet ch i n s)).store.read a =
      if a = slotAddr s.cfg (bankNum s.config.activeBank) ch i then n
      else if i + 1 < s.cfg.S ∧ a = slotAddr s.cfg (bankNum s.config.activeBank) ch (i + 1) then u
      else s.store.read a := by
  have hne : slotAddr s.cfg (bankNum s.config.activeBank) ch i ≠ slotAddr s.cfg (bankNum s.config.activeBank) ch (i + 1) := by
    simp only [slotAddr]
    omega
  rw [mapSet_read (by rwa [mapSet_cfg]) (mapSet_wf hwf ch i n), mapSet_read hc hwf, mapSet_cfg, mapSet_config]
  by_cases ha : a = slotAddr s.cfg (bankNum s.config.activeBank) ch i
  · rw [if_neg fun h => hne (ha ▸ h.2), if_pos ⟨hi, ha⟩, if_pos ha]
  · simp only [ha, and_false, if_false]

end

/-- `addMapping` leaves every other channel (R174). -/
theorem addMapping_map_of_ne {k ch : Nat} (hk : k ≠ ch) (n v : Data7) (ap : Bool) (s : State) :
    (addMapping ch n v ap s).2.map[k]? = s.map[k]? := by
  simp only [addMapping]
  repeat' split
  all_goals simp only [mapSet_map_of_ne hk]

section
variable {ch : Nat} {s : State} (hc : ch < s.cfg.C) {n : Data7}
include hc

/-- A note that the channel holds already is not added (R174). -/
theorem addMapping_of_mem (hn : zext7 n ∈ slotPrefix s.cfg.UNASSIGNED (s.map.getD ch [])) (v : Data7) :
    (addMapping ch n v true s).2 = s := by
  rw [addMapping_eq hc]
  simp only [if_pos hn]

/-- With a free slot the note goes to the first one, and the sentinel behind it (R174). -/
theorem addMapping_of_free (hn : zext7 n ∉ slotPrefix s.cfg.UNASSIGNED (s.map.getD ch []))
    (hfree : (slotPrefix s.cfg.UNASSIGNED (s.map.getD ch [])).length < (s.map.getD ch []).length) (v : Data7) :
    (addMapping ch n v true s).2 =
      mapSet ch ((slotPrefix s.cfg.UNASSIGNED (s.map.getD ch [])).length + 1) s.cfg.UNASSIGNED
        (mapSet ch (slotPrefix s.cfg.UNASSIGNED (s.map.getD ch [])).length (zext7 n) s) := by
  rw [addMapping_eq hc]
  simp only [if_neg hn, if_pos hfree]
  split
  · rfl
  · next hlast => exact (mapSet_of_not_lt fun h => hlast (by simpa using h.2)).symm

/-- In a full channel the note replaces the last slot (R174). -/
theorem addMapping_of_full (hn : zext7 n ∉ slotPrefix s.cfg.UNASSIGNED (s.map.getD ch []))
    (hfull : (slotPrefix s.cfg.UNASSIGNED (s.map.getD ch [])).length = (s.map.getD ch []).length) (v : Data7) :
    (addMapping ch n v true s).2 = mapSet ch (s.cfg.S - 1) (zext7 n) s := by
  rw [addMapping_eq hc]
  simp only [if_neg hn, hfull, Nat.lt_irrefl, if_false]

end

/-- A note is not the sentinel under a valid CFG (R10). -/
theorem zext7_ne_unassigned {c : Cfg} (hv : c.valid = true) (n : Data7) : zext7 n ≠ c.UNASSIGNED := by
  have hu : 128 ≤ c.UNASSIGNED.toNat := by have := valid_sizes hv; omega
  have hn := zext7_toNat_lt n
  rintro e
  rw [e] at hn
  omega

/-- Settles O19: such a note is routed to `addMapping`, by whether the channel holds the note, has a free slot, or is full. -/
theorem teachingAddsTheNote : Obligations.TeachingAddsTheNote := by
  intro v s hv ⟨hwf, _⟩ ⟨_, _, hrows, hcols, _⟩ h0 hq hmode hc ch row n u len addr
  have hrow : row.length = s.cfg.S := by
    have hget : row = s.map[ch] := by simp [row, hrows, ch, hc]
    exact hget ▸ hcols _ (List.getElem_mem _)
  have hS : 1 ≤ s.cfg.S := (valid_sizes hv).2.2.1
  have hnu : n ≠ u := zext7_ne_unassigned hv s.parser.pendingNote
  have hrouted : effect (.dataWaitingForOnVelocity v) (beginEvent s) =
      setMState .waitingForNoteOn (addMapping ch s.parser.pendingNote v true (noteOnTaken v s)).2 := by
    rw [effect_velocity_of_qualifies h0 hq, routeNoteOn_programMap (s := noteOnTaken v s) hmode]
    rfl
  refine ⟨_, exec_of_ne_reset (by rintro _ ⟨⟩) hv, ?_⟩
  rw [hrouted]
  refine ⟨by simp [noteOnTaken], fun k hk => addMapping_map_of_ne hk _ _ _ _, fun hmem => ?_, fun hmem hfree => ?_,
    fun hmem hfull => ?_⟩
  · rw [addMapping_of_mem (s := noteOnTaken v s) (ch := ch) hc hmem]
    exact ⟨rfl, rfl, rfl⟩
  · rw [addMapping_of_free (s := noteOnTaken v s) (ch := ch) hc hmem (hrow ▸ hfree)]
    have hmap := mapSet_mapSet_row (s := noteOnTaken v s) (ch := ch) hc len n u hrow
    exact ⟨hmap, (congrArg _ hmap).trans (slotPrefix_append u n hnu row (hrow ▸ hfree)),
      mapSet_mapSet_bus (s := noteOnTaken v s) (ch := ch) hc len n u hfree,
      mapSet_mapSet_read (s := noteOnTaken v s) (ch := ch) hc len n u hwf hfree⟩
  · rw [addMapping_of_full (s := noteOnTaken v s) (ch := ch) hc hmem (hfull.trans hrow.symm)]
    have hlast : s.cfg.S - 1 < s.cfg.S := Nat.sub_lt hS Nat.one_pos
    have hmap := mapSet_row (s := noteOnTaken v s) (ch := ch) (sl := s.cfg.S - 1) hc hrow n
    have hreplaced : slotPrefix u (row.set (s.cfg.S - 1) n) = (slotPrefix u row).dropLast ++ [n] :=
      hrow ▸ slotPrefix_full u n hnu row (List.ne_nil_of_length_pos (hrow ▸ hS)) (hfull.trans hrow.symm)
    refine ⟨hmap, (congrArg _ hmap).trans hreplaced, ?_, fun a => ?_⟩
    · exact (mapSet_bus (s := noteOnTaken v s) (ch := ch) hc _ n).trans (if_pos hlast)
    · refine (mapSet_read (s := noteOnTaken v s) (ch := ch) hc hwf _ n a).trans ?_
      exact if_congr (and_iff_right hlast) rfl rfl

end Sys2Proof.Machine
end

section
/-! The NoteMap (41_notemap.md): adding a note twice (O20), the answer of `lookup` (O21), and everything a TICK without transition
does to the configuration, the cache and the store in Play (O34). -/
namespace Sys2Proof.Machine

/-! ### Adding a note twice -/

section
variable {ch : Nat} {s : State} (hc : ch < s.cfg.C) {n : Data7}
include hc

/-- `addMapping` of a note that the channel holds answers duplicate and changes nothing (R174). -/
theorem addMapping_duplicate (hn : zext7 n ∈ slotPrefix s.cfg.UNASSIGNED (s.map.getD ch [])) (v : Data7) :
    addMapping ch n v true s = (.duplicate, s) := by
  rw [addMapping_eq hc]
  exact if_pos hn

/-- After `addMapping` the channel holds the note, whether it did before, had a free slot, or was full (R174). -/
theorem mem_slotPrefix_addMapping (hv : s.cfg.valid = true) (hrow : (s.map.getD ch []).length = s.cfg.S) (v : Data7) :
    zext7 n ∈ slotPrefix s.cfg.UNASSIGNED ((addMapping ch n v true s).2.map.getD ch []) := by
  have hnu := zext7_ne_unassigned hv n
  by_cases hmem : zext7 n ∈ slotPrefix s.cfg.UNASSIGNED (s.map.getD ch [])
  · rwa [addMapping_of_mem hc hmem]
  · rcases (slotPrefix_length_le s.cfg.UNASSIGNED (s.map.getD ch [])).lt_or_eq with hfree | hfull
    · rw [addMapping_of_free hc hmem hfree, mapSet_mapSet_row hc _ _ _ hrow, slotPrefix_append _ _ hnu _ hfree]
      exact List.mem_concat_self
    · have hS := (valid_sizes hv).2.2.1
      rw [addMapping_of_full hc hmem hfull, mapSet_row hc hrow, ← hrow,
        slotPrefix_full _ _ hnu _ (List.ne_nil_of_length_pos (hrow ▸ hS)) hfull]
      exact List.mem_concat_self

/-- `addMapping` on a full channel leaves every slot but the last (R175). -/
theorem mapGet_addMapping_full (hrow : (s.map.getD ch []).length = s.cfg.S)
    (hfull : (slotPrefix s.cfg.UNASSIGNED (s.map.getD ch [])).length = s.cfg.S) (v : Data7) {sl : Nat}
    (hsl : sl + 1 < s.cfg.S) : mapGet (addMapping ch n v true s).2 ch sl = mapGet s ch sl := by
  by_cases hmem : zext7 n ∈ slotPrefix s.cfg.UNASSIGNED (s.map.getD ch [])
  · rw [addMapping_of_mem hc hmem]
  · rw [addMapping_of_full hc hmem (hfull.trans hrow.symm), mapGet, mapSet_row hc hrow, List.getD, List.getElem?_set_ne (by omega)]
    rfl

end

/-- Settles O20: the first `addMapping` leaves the note among the channel's occupied slots, where the second finds it. -/
theorem addMappingTwiceIsDuplicate : Obligations.AddMappingTwiceIsDuplicate := by
  intro s ch n v w hv ⟨_, _, hrows, hcols, _⟩ hc
  have hrow : (s.map.getD ch []).length = s.cfg.S := by
    have hget : s.map.getD ch [] = s.map[ch] := by simp [hrows, hc]
    exact hget ▸ hcols _ (List.getElem_mem _)
  refine ⟨addMapping_duplicate (by rwa [addMapping_cfg]) ?_ w, fun hfull sl hsl => mapGet_addMapping_full hc hrow hfull v hsl⟩
  rw [addMapping_cfg]
  exact mem_slotPrefix_addMapping hc hv hrow v

/-! ### Lookup -/

/-- Settles O21: an answer has the property (`lookup_some`) and no other channel can have it; no answer, no channel
(`lookup_none`). -/
theorem lookupFindsTheFirstChannel : Obligations.LookupFindsTheFirstChannel := by
  intro u note m start
  cases e : lookup u m note start with
  | none =>
    have hnone := lookup_none e
    exact ⟨fun ch => iff_of_false (by simp) fun h => hnone ch h.1 h.2.1, iff_of_true rfl hnone⟩
  | some found =>
    obtain ⟨hstart, hheld, hfirst⟩ := lookup_some e
    refine ⟨fun ch => ⟨?_, fun ⟨hch, hmem, hbefore⟩ => ?_⟩, iff_of_false (by simp) fun h => h found hstart hheld⟩
    · rintro ⟨⟩
      exact ⟨hstart, hheld, hfirst⟩
    · have hle : found ≤ ch := not_lt.1 fun hlt => hfirst ch hch hlt hmem
      have hge : ch ≤ found := not_lt.1 fun hlt => hbefore found hstart hlt hheld
      rw [le_antisymm hle hge]

/-! ### A TICK without transition -/

/-- A TICK outside command mode and without transition answers a next state with the mode registers, the configuration, the cache,
the store and the store calls that the actions of the mode leave (R240, R241). -/
theorem exec_tick_of_no_transition {s : State} {lines : List Bool} (hv : s.cfg.valid = true) (hcmd : s.mode.cmdMode = false)
    (ht : transition s.cfg (tickRose lines s) s.mode = none) :
    ∃ t, exec (.tick lines) s = .next t ∧
      let u := modeActions (tickRose lines s) (sampleStep lines (beginEvent s))
      t.mode = u.mode ∧ t.config = u.config ∧ t.map = u.map ∧ t.store = u.store ∧ t.bus = u.bus := by
  have hstep : afterModeStep lines (beginEvent s) = modeActions (tickRose lines s) (sampleStep lines (beginEvent s)) :=
    modeStep_of_none hcmd ht
  refine ⟨_, exec_of_ne_reset (by rintro _ ⟨⟩) hv, ?_⟩
  rw [← hstep]
  exact ⟨rfl, rfl, rfl, rfl, rfl⟩

/-! ### The swap gesture in Play -/

/-- The actions of Play cycle the bank on the swap button's Held edge (R248). -/
theorem playActions_of_held {rose : Nat → BtnClass} {s : State} {i : Nat} (hi : s.cfg.BTN_SWAP = some i)
    (h : (rose i).held = true) : playActions rose s = cycleBank s := by
  simp only [playActions, hi, onEdge, if_pos h]

/-- Without a Held edge of a swap button the actions of Play do nothing (R248). -/
theorem playActions_of_not_held {rose : Nat → BtnClass} {s : State}
    (h : ∀ i, s.cfg.BTN_SWAP = some i → (rose i).held = false) : playActions rose s = s := by
  cases hi : s.cfg.BTN_SWAP with
  | none => simp only [playActions, hi]
  | some i => simp [playActions, hi, onEdge, h i hi]

/-- Settles O34: the TICK's effect is `playActions`, which is `selectBank` of the other bank or nothing. -/
theorem swapGestureCyclesBank : Obligations.SwapGestureCyclesBank := by
  intro s lines hv hs hcmd hplay hheld b
  obtain ⟨t, ht, hmode, hconfig, hmap, hstore, hbus⟩ :=
    exec_tick_of_no_transition hv hcmd (transition_play_of_not_held hplay hheld)
  have hactions : modeActions (tickRose lines s) (sampleStep lines (beginEvent s)) =
      playActions (tickRose lines s) (sampleStep lines (beginEvent s)) := by
    simp only [modeActions, sampleStep_mode, beginEvent_mode, hplay]
  rw [hactions] at hmode hconfig hmap hstore hbus
  refine ⟨t, ht, hmode.trans (playActions_mode _ _), fun i hi hswap => ?_, fun hnone => ?_⟩
  · rw [playActions_of_held (s := sampleStep lines (beginEvent s)) hi hswap, cycleBank_eq,
      selectBank_of_le (Nat.sub_le _ _)] at hconfig hmap hstore hbus
    refine ⟨hconfig, hmap ▸ loadBank_length _ _ _, hmap ▸ loadBank_row_length _ _ _, fun ch hch sl hsl => ?_, ?_, fun a => ?_⟩
    · rw [mapGet, hmap]
      exact loadBank_getD _ _ hch hsl
    · rw [hbus, storesOf_append, storesOf_append, storesOf_gets]
      rfl
    · rw [hstore]
      exact read_write hs.1 _ _ _
  · rw [playActions_of_not_held (s := sampleStep lines (beginEvent s)) hnone] at hconfig hmap hstore hbus
    exact ⟨hconfig, hmap, hstore, hbus⟩

end Sys2Proof.Machine
end

section
/-! A TICK in ProgramMap without transition (R241, R250 to R255): the channel and the bank it selects, then cancel's two long
edges (O36, O37). -/
namespace Sys2Proof.Machine

/-! ### Selecting the channel and the bank -/

/-- The first four actions of ProgramMap: Up, Down, Left, Right (R250, R252). -/
def mapSelect (rose : Nat → BtnClass) (s : State) : State :=
  onEdge (rose s.cfg.BTN_RIGHT).pressed (selectBank 1)
    (onEdge (rose s.cfg.BTN_LEFT).pressed (selectBank 0)
      (onEdge (rose s.cfg.BTN_DOWN).pressed progChDown (onEdge (rose s.cfg.BTN_UP).pressed progChUp s)))

/-- The last two actions of ProgramMap, on cancel's edges `k`: held long, held super-long (R254, R255). -/
def mapCancel (k : BtnClass) (s : State) : State := onEdge k.heldSuperLong restoreActive (onEdge k.heldLong clearSelected s)

/-- The actions of ProgramMap select, then cancel acts on what is selected (R241). -/
theorem mapActions_eq (rose : Nat → BtnClass) (s : State) :
    mapActions rose s = mapCancel (rose s.cfg.BTN_CANCEL) (mapSelect rose s) := rfl

/-- The channel that the edges of Up and Down select (R250). -/
def selectedChannel (rose : Nat → BtnClass) (s : State) : Nat :=
  let up := if (rose s.cfg.BTN_UP).pressed then min (s.mode.progCh.toNat + 1) (s.cfg.C - 1) else s.mode.progCh.toNat
  if (rose s.cfg.BTN_DOWN).pressed then up - 1 else up

/-- The bank that the edges of Left and Right select (R252). -/
def selectedBank (rose : Nat → BtnClass) (s : State) : Nat :=
  if (rose s.cfg.BTN_RIGHT).pressed then 1 else if (rose s.cfg.BTN_LEFT).pressed then 0 else bankNum s.config.activeBank

/-- Left or Right has its edge, so a bank is selected (R252). -/
def selectsBank (rose : Nat → BtnClass) (s : State) : Bool :=
  (rose s.cfg.BTN_LEFT).pressed || (rose s.cfg.BTN_RIGHT).pressed

theorem selectedBank_le (rose : Nat → BtnClass) (s : State) : selectedBank rose s ≤ 1 := by
  have := bankNum_le s.config.activeBank
  unfold selectedBank
  split_ifs <;> omega

/-- Up and Down select a channel (R250). -/
theorem selectedChannel_lt {s : State} (hv : s.cfg.valid = true) (hch : s.mode.progCh.toNat < s.cfg.C) (rose : Nat → BtnClass) :
    selectedChannel rose s < s.cfg.C := by
  have := valid_sizes hv
  unfold selectedChannel
  dsimp only
  split_ifs <;> omega

/-- What the selection of a TICK from `s` leaves in `u` for cancel to act on: the channel and the bank, the cache reloaded from the
bank if one was selected, and its number persisted (R250, R252). -/
structure Selected (rose : Nat → BtnClass) (s u : State) : Prop where
  cfg : u.cfg = s.cfg
  mode : u.mode = { s.mode with progCh := BitVec.ofNat 7 (selectedChannel rose s) }
  config : u.config = { s.config with activeBank := BitVec.ofNat 1 (selectedBank rose s) }
  map : u.map = if selectsBank rose s then loadBank s.cfg s.store (selectedBank rose s) else s.map
  writes : storesOf u.bus =
    (if (rose s.cfg.BTN_LEFT).pressed then [(s.cfg.ADDR_BANK, 0)] else []) ++
      (if (rose s.cfg.BTN_RIGHT).pressed then [(s.cfg.ADDR_BANK, 1)] else [])
  wf : u.store.wf = true
  read : ∀ a, u.store.read a =
    if selectsBank rose s = true ∧ a = s.cfg.ADDR_BANK then BitVec.ofNat 8 (selectedBank rose s) else s.store.read a

/-- The first four actions of ProgramMap leave the selection (R241). -/
theorem selected_mapSelect {s : State} (hv : s.cfg.valid = true) (hs : s.store.wf = true) (rose : Nat → BtnClass)
    (lines : List Bool) : Selected rose s (mapSelect rose (sampleStep lines (beginEvent s))) := by
  have hupDown := progCh_upDown (s := sampleStep lines (beginEvent s)) hv (rose s.cfg.BTN_UP).pressed
    (rose s.cfg.BTN_DOWN).pressed
  have hselect : mapSelect rose (sampleStep lines (beginEvent s)) =
      onEdge (rose s.cfg.BTN_RIGHT).pressed (selectBank 1) (onEdge (rose s.cfg.BTN_LEFT).pressed (selectBank 0)
        { sampleStep lines (beginEvent s) with
          mode := { s.mode with progCh := BitVec.ofNat 7 (selectedChannel rose s) } }) :=
    congrArg (fun t => onEdge _ (selectBank 1) (onEdge _ (selectBank 0) t)) hupDown
  obtain ⟨hcfg, hmode, hconfig, hmap, hwrites, hwf, hread⟩ := selectBank_leftRight
    (s := { sampleStep lines (beginEvent s) with mode := { s.mode with progCh := BitVec.ofNat 7 (selectedChannel rose s) } })
    hv hs (rose s.cfg.BTN_LEFT).pressed (rose s.cfg.BTN_RIGHT).pressed
  rw [hselect]
  exact ⟨hcfg, hmode, hconfig, hmap, hwrites, hwf, hread⟩

section
variable {rose : Nat → BtnClass} {s u : State} (hu : Selected rose s u)
include hu

/-- The active bank is the selected one. -/
theorem Selected.bankNum_activeBank : bankNum u.config.activeBank = selectedBank rose s := by
  rw [hu.config]
  exact bankNum_ofNat (selectedBank_le rose s)

/-- The selected channel is one, and fits its register (R250). -/
theorem Selected.toNat_progCh (hv : s.cfg.valid = true) (hch : s.mode.progCh.toNat < s.cfg.C) :
    u.mode.progCh.toNat = selectedChannel rose s := by
  have hC := (valid_sizes hv).2.1
  have hlt := selectedChannel_lt hv hch rose
  rw [hu.mode, BitVec.toNat_ofNat]
  omega

end

/-! ### Cancel -/

/-- Cancel held long clears the selected channel if it is one (R180, R254). -/
def cancelClears (k : BtnClass) (s : State) : Bool := k.heldLong && decide (s.mode.progCh.toNat < s.cfg.C)

/-- The cache after cancel's HeldLong edge (R180). -/
def clearedMap (k : BtnClass) (s : State) : List (List Byte) :=
  if cancelClears k s then cacheSet s.map s.mode.progCh.toNat 0 s.cfg.UNASSIGNED else s.map

/-- The cache after both long edges of cancel (R180, R182). -/
def cancelMap (k : BtnClass) (s : State) : List (List Byte) :=
  if k.heldSuperLong then defaultTable s.cfg (bankNum s.config.activeBank) else clearedMap k s

/-- The StoreWrites of cancel's HeldLong edge (R180). -/
def clearWrites (k : BtnClass) (s : State) : List (Nat × Byte) :=
  if cancelClears k s then [(slotAddr s.cfg (bankNum s.config.activeBank) s.mode.progCh.toNat 0, s.cfg.UNASSIGNED)] else []

/-- The StoreWrites of both long edges of cancel (R180, R182). -/
def cancelWrites (k : BtnClass) (s : State) : List (Nat × Byte) :=
  clearWrites k s ++ if k.heldSuperLong then defaultWrites s.cfg (bankNum s.config.activeBank) else []

/-- Two sequences of writes after each other. -/
theorem storeWrites_append (ws ws' : List (Nat × Byte)) (s : State) :
    storeWrites (ws ++ ws') s = storeWrites ws' (storeWrites ws s) := List.foldl_append

/-- Cancel's long edge is a cache write and its StoreWrite if the selected channel is one, else nothing (R180). -/
theorem onEdge_clearSelected_eq {s : State} (hv : s.cfg.valid = true) (k : BtnClass) :
    onEdge k.heldLong clearSelected s = storeWrites (clearWrites k s) { s with map := clearedMap k s } := by
  have hS : 0 < s.cfg.S := (valid_sizes hv).2.2.1
  unfold clearWrites clearedMap
  cases hclears : cancelClears k s with
  | true =>
    obtain ⟨hlong, hch⟩ : k.heldLong = true ∧ s.mode.progCh.toNat < s.cfg.C := by simpa [cancelClears] using hclears
    rw [hlong, onEdge, if_pos rfl, clearSelected, clearChannel, if_pos hch, mapSet_of_lt ⟨hch, hS⟩]
    rfl
  | false =>
    cases hlong : k.heldLong with
    | true =>
      have hch : ¬ s.mode.progCh.toNat < s.cfg.C := by simpa [cancelClears, hlong] using hclears
      rw [onEdge, if_pos rfl, clearSelected, clearChannel, if_neg hch]
      rfl
    | false => rfl

/-- Restoring the active bank makes its default table the cache and writes it to the bank (R182). -/
theorem restoreActive_eq (s : State) :
    restoreActive s = storeWrites (defaultWrites s.cfg (bankNum s.config.activeBank))
      { s with map := defaultTable s.cfg (bankNum s.config.activeBank) } := by
  rw [restoreActive, restoreDefaults_active, storeWrites_eq]

/-- Cancel's long edges are one update of the cache and one sequence of StoreWrites. -/
theorem mapCancel_eq {s : State} (hv : s.cfg.valid = true) (k : BtnClass) :
    mapCancel k s = storeWrites (cancelWrites k s) { s with map := cancelMap k s } := by
  rw [mapCancel, onEdge_clearSelected_eq hv, cancelWrites, storeWrites_append]
  unfold cancelMap
  cases k.heldSuperLong with
  | true =>
    rw [onEdge, if_pos rfl, restoreActive_eq]
    simp only [storeWrites_eq]
    rfl
  | false => rfl

/-- Cancel's long edges write to entries of the active bank only. -/
theorem slot_of_mem_cancelWrites {k : BtnClass} {s : State} (hv : s.cfg.valid = true) {w : Nat × Byte}
    (hw : w ∈ cancelWrites k s) :
    ∃ ch < s.cfg.C, ∃ sl < s.cfg.S, w.1 = slotAddr s.cfg (bankNum s.config.activeBank) ch sl := by
  rcases List.mem_append.1 hw with hw | hw
  · rw [clearWrites, List.mem_ite_nil_right, List.mem_singleton, cancelClears, Bool.and_eq_true, decide_eq_true_eq] at hw
    obtain ⟨⟨_, hch⟩, rfl⟩ := hw
    exact ⟨_, hch, 0, (valid_sizes hv).2.2.1, rfl⟩
  · obtain ⟨ch, hch, sl, hsl, rfl⟩ := mem_defaultWrites.1 (List.mem_ite_nil_right.1 hw).2
    exact ⟨ch, hch, sl, hsl, rfl⟩

/-- An address that cancel's long edges do not write keeps its byte. -/
theorem mapCancel_read_of_ne {k : BtnClass} {s : State} (hv : s.cfg.valid = true) {a : Nat}
    (ha : ∀ w ∈ cancelWrites k s, w.1 ≠ a) : (mapCancel k s).store.read a = s.store.read a := by
  rw [mapCancel_eq hv, storeWrites_store]
  exact read_replay_sets_of_ne ha

/-- Cancel's long edges leave a configuration byte (R62). -/
theorem mapCancel_read_addr {s : State} (hv : s.cfg.valid = true) (k : BtnClass) {a : Nat} (ha : a ∈ s.cfg.addrs) :
    (mapCancel k s).store.read a = s.store.read a := by
  refine mapCancel_read_of_ne hv fun w hw e => ?_
  obtain ⟨ch, hch, sl, hsl, hslot⟩ := slot_of_mem_cancelWrites hv hw
  exact slotAddr_ne_addr hv hch hsl (hslot ▸ e ▸ ha)

/-- The byte that cancel's HeldLong edge writes (R180). -/
theorem mapCancel_read_cleared {k : BtnClass} {s : State} (hv : s.cfg.valid = true) (hs : s.store.wf = true)
    (hclears : cancelClears k s = true) (hsup : k.heldSuperLong = false) :
    (mapCancel k s).store.read (slotAddr s.cfg (bankNum s.config.activeBank) s.mode.progCh.toNat 0) = s.cfg.UNASSIGNED := by
  rw [mapCancel_eq hv, storeWrites_store, cancelWrites, clearWrites, if_pos hclears, hsup]
  exact read_write_self hs _ _

/-- Cancel's HeldSuperLong edge makes the active bank load as its default table (R182). -/
theorem loadBank_mapCancel {k : BtnClass} {s : State} (hv : s.cfg.valid = true) (hs : s.store.wf = true)
    (hsup : k.heldSuperLong = true) :
    loadBank s.cfg (mapCancel k s).store (bankNum s.config.activeBank) =
      defaultTable s.cfg (bankNum s.config.activeBank) := by
  rw [mapCancel_eq hv, storeWrites_store, cancelWrites, if_pos hsup, List.map_append, replay_append]
  exact loadBank_replay_defaults hv (wf_replay hs _) _

/-- A row whose slot 0 holds the sentinel holds no note (R17). -/
theorem slotPrefix_set_zero (u : Byte) (row : List Byte) : slotPrefix u (row.set 0 u) = [] := by
  cases row with
  | nil => rfl
  | cons b bs => exact (slotPrefix_cons u u bs).trans (if_pos rfl)

/-- Cancel's HeldLong edge leaves the selected channel without a note (R180). -/
theorem slotPrefix_clearedMap {k : BtnClass} {s : State} (hclears : cancelClears k s = true) :
    slotPrefix s.cfg.UNASSIGNED ((clearedMap k s).getD s.mode.progCh.toNat []) = [] := by
  rw [clearedMap, if_pos hclears, cacheSet, List.getD, List.getElem?_modify_eq]
  cases s.map[s.mode.progCh.toNat]? with
  | none => rfl
  | some row => exact slotPrefix_set_zero _ row

/-- Cancel's long edges keep the cache C rows of S bytes. -/
theorem cancelMap_shape {s : State} (hv : s.cfg.valid = true) (hl : s.map.length = s.cfg.C)
    (hr : ∀ row ∈ s.map, row.length = s.cfg.S) (k : BtnClass) :
    (cancelMap k s).length = s.cfg.C ∧ ∀ row ∈ cancelMap k s, row.length = s.cfg.S := by
  have hcleared : (clearedMap k s).length = s.cfg.C ∧ ∀ row ∈ clearedMap k s, row.length = s.cfg.S := by
    unfold clearedMap cacheSet
    split
    · refine ⟨by rw [List.length_modify, hl], fun row hrow => ?_⟩
      obtain ⟨i, hi, rfl⟩ := List.getElem_of_mem hrow
      have hold := hr _ (List.getElem_mem (by simpa using hi))
      rw [List.getElem_modify]
      split <;> simp [hold]
    · exact ⟨hl, hr⟩
  unfold cancelMap
  split
  · exact ⟨defaultTable_length hv _, defaultTable_row_length hv _⟩
  · exact hcleared

/-! ### Cancel on what is selected -/

section
variable {rose : Nat → BtnClass} {s u : State} (hu : Selected rose s u) (hv : s.cfg.valid = true)
  (hch : s.mode.progCh.toNat < s.cfg.C) (k : BtnClass)
include hu

/-- An entry of the active bank is one of the selected bank. -/
theorem Selected.slotAddr_eq (ch sl : Nat) :
    slotAddr u.cfg (bankNum u.config.activeBank) ch sl = slotAddr s.cfg (selectedBank rose s) ch sl := by
  rw [hu.cfg, hu.bankNum_activeBank]

include hv hch

/-- The channel to clear exists: cancel held long clears it (R254). -/
theorem Selected.cancelClears_eq : cancelClears k u = k.heldLong := by
  rw [cancelClears, hu.toNat_progCh hv hch, hu.cfg, decide_eq_true (selectedChannel_lt hv hch rose), Bool.and_true]

/-- Cancel's HeldLong edge clears the selected channel's row (R180, R254). -/
theorem Selected.clearedMap_eq :
    clearedMap k u = if k.heldLong then cacheSet u.map (selectedChannel rose s) 0 s.cfg.UNASSIGNED else u.map := by
  rw [clearedMap, hu.cancelClears_eq hv hch, hu.toNat_progCh hv hch, hu.cfg]

/-- Cancel's long edges write the selected bank (R180, R182, R254, R255). -/
theorem Selected.cancelWrites_eq :
    cancelWrites k u =
      (if k.heldLong then [(slotAddr s.cfg (selectedBank rose s) (selectedChannel rose s) 0, s.cfg.UNASSIGNED)] else []) ++
        if k.heldSuperLong then defaultWrites s.cfg (selectedBank rose s) else [] := by
  rw [cancelWrites, clearWrites, hu.cancelClears_eq hv hch, hu.slotAddr_eq, hu.toNat_progCh hv hch, hu.bankNum_activeBank, hu.cfg]

/-- The addresses that the selection and cancel both leave keep their bytes (R21). -/
theorem Selected.mapCancel_read {a : Nat} (hbank : selectsBank rose s = true → a ≠ s.cfg.ADDR_BANK)
    (hclear : k.heldLong = true → a ≠ slotAddr s.cfg (selectedBank rose s) (selectedChannel rose s) 0)
    (hrestore : k.heldSuperLong = true → ∀ ch < s.cfg.C, ∀ sl < s.cfg.S, a ≠ slotAddr s.cfg (selectedBank rose s) ch sl) :
    (mapCancel k u).store.read a = s.store.read a := by
  have hcancel : ∀ w ∈ cancelWrites k u, w.1 ≠ a := by
    intro w hw e
    rw [hu.cancelWrites_eq hv hch] at hw
    rcases List.mem_append.1 hw with hw | hw
    · obtain ⟨hlong, hw⟩ := List.mem_ite_nil_right.1 hw
      obtain rfl := List.mem_singleton.1 hw
      exact hclear hlong e.symm
    · obtain ⟨hsup, hw⟩ := List.mem_ite_nil_right.1 hw
      obtain ⟨ch, hc, sl, hsl, rfl⟩ := mem_defaultWrites.1 hw
      exact hrestore hsup ch hc sl hsl e.symm
  rw [mapCancel_read_of_ne (hu.cfg ▸ hv) hcancel, hu.read]
  exact if_neg fun h => hbank h.1 h.2

end

/-! ### A TICK in ProgramMap -/

section
variable {s : State} {lines : List Bool} (hv : s.cfg.valid = true) (hcmd : s.mode.cmdMode = false)
  (hmap : s.mode.mode = .programMap) (hheld : (tickRose lines s s.cfg.BTN_MODE).held = false)
  (hcycle : (tickRose lines s s.cfg.BTN_CYCLE).held = false)
include hv hcmd hmap hheld hcycle

/-- A TICK in ProgramMap without transition selects, then cancel acts on what is selected (R241). -/
theorem exec_tick_programMap (hs : s.store.wf = true) :
    ∃ t u, exec (.tick lines) s = .next t ∧ Selected (tickRose lines s) s u ∧
      t.mode = u.mode ∧ t.config = u.config ∧ t.map = cancelMap (tickRose lines s s.cfg.BTN_CANCEL) u ∧
      t.store = (mapCancel (tickRose lines s s.cfg.BTN_CANCEL) u).store ∧
      storesOf t.bus = storesOf u.bus ++ cancelWrites (tickRose lines s s.cfg.BTN_CANCEL) u := by
  have hno : transition s.cfg (tickRose lines s) s.mode = none := transition_of_not_held hheld hcycle
  obtain ⟨t, ht, hmode, hconfig, hcache, hstore, hbus⟩ := exec_tick_of_no_transition hv hcmd hno
  have hu := selected_mapSelect hv hs (tickRose lines s) lines
  have hactions : modeActions (tickRose lines s) (sampleStep lines (beginEvent s)) =
      mapCancel (tickRose lines s s.cfg.BTN_CANCEL) (mapSelect (tickRose lines s) (sampleStep lines (beginEvent s))) := by
    simp only [modeActions, sampleStep_mode, beginEvent_mode, hmap]
    exact mapActions_eq _ _
  rw [hactions] at hmode hconfig hcache hstore hbus
  refine ⟨t, _, ht, hu, ?_⟩
  have hcancel := mapCancel_eq (hu.cfg ▸ hv) (tickRose lines s s.cfg.BTN_CANCEL)
  refine ⟨?_, ?_, ?_, hstore, ?_⟩
  · rw [hmode, hcancel, storeWrites_mode]
  · rw [hconfig, hcancel, storeWrites_config]
  · rw [hcache, hcancel, storeWrites_map]
  · rw [hbus, hcancel, storeWrites_bus, storesOf_append, storesOf_sets]

end

/-- Settles O36: the bank is selected before cancel acts, and cancel keeps the shape of the cache and the configuration bytes. -/
theorem mapLeftRightSelectTheBank : Obligations.MapLeftRightSelectTheBank := by
  intro s lines hv hs hcmd hmode hheld hcycle hedge b
  obtain ⟨t, u, ht, hu, -, hconfig, hmap, hstore, -⟩ := exec_tick_programMap hv hcmd hmode hheld hcycle hs.1
  have hsel : selectsBank (tickRose lines s) s = true := by simpa [selectsBank] using hedge
  have hb : selectedBank (tickRose lines s) s = b := by
    unfold selectedBank b
    split_ifs with hr hl
    · rfl
    · rfl
    · exact absurd hedge (by simp [hr, hl])
  have huv : u.cfg.valid = true := hu.cfg ▸ hv
  have humap : u.map = loadBank s.cfg s.store b := by rw [hu.map, if_pos hsel, hb]
  have huread (a : Nat) : u.store.read a = if a = s.cfg.ADDR_BANK then BitVec.ofNat 8 b else s.store.read a := by
    simp only [hu.read, hb, hsel, true_and]
  have hshape := cancelMap_shape huv (by rw [humap, hu.cfg, loadBank_length])
    (by rw [humap, hu.cfg]; exact loadBank_row_length _ _ _) (tickRose lines s s.cfg.BTN_CANCEL)
  rw [← hmap, hu.cfg] at hshape
  refine ⟨t, ht, by rw [hconfig, hu.config, hb], hshape.1, hshape.2, ?_, fun hlong hsup => ?_⟩
  · rw [hstore, mapCancel_read_addr huv _ (by simp [hu.cfg, Cfg.addrs]), huread, if_pos rfl]
  · have hcancel : mapCancel (tickRose lines s s.cfg.BTN_CANCEL) u = u := by simp [mapCancel, hlong, hsup, onEdge]
    have htmap : t.map = loadBank s.cfg s.store b := by
      rw [hmap, cancelMap, clearedMap, cancelClears, hlong, hsup]
      exact humap
    refine ⟨fun ch hch sl hsl => ?_, fun a => ?_⟩
    · rw [mapGet, htmap]
      exact loadBank_getD _ _ hch hsl
    · rw [hstore, hcancel, huread]

/-- Settles O37: the TICK selects a channel and a bank (`Selected`), and cancel's writes go to that bank's entries. -/
theorem mapCancelClearsOrRestores : Obligations.MapCancelClearsOrRestores := by
  intro s lines hv hs hcmd hmode hch hheld hcycle left right long superLong up ch b addr selected
  obtain ⟨t, u, ht, hu, htmode, hconfig, hmap, hstore, hbus⟩ := exec_tick_programMap hv hcmd hmode hheld hcycle hs.1
  have huv : u.cfg.valid = true := hu.cfg ▸ hv
  have huch : u.mode.progCh.toNat = ch := hu.toNat_progCh hv hch
  have hubank : bankNum u.config.activeBank = b := hu.bankNum_activeBank
  have hclears : cancelClears (tickRose lines s s.cfg.BTN_CANCEL) u = long := hu.cancelClears_eq hv hch _
  have humap : u.map = selected := by
    rw [hu.map, loadBank_eq]
    rfl
  have htmap : t.map = if superLong then defaultTable s.cfg b else clearedMap (tickRose lines s s.cfg.BTN_CANCEL) u := by
    rw [hmap, cancelMap, hubank, hu.cfg]
  refine ⟨t, ht, hconfig.trans hu.config, htmode.trans hu.mode, ?_, fun hl hsup => ?_, ?_, fun hlr => ?_,
    fun hl hsup => ?_, fun hsup k hk sl hsl => ?_, fun a hbank hclear hrestore => ?_⟩
  · rw [htmap, hu.clearedMap_eq hv hch, humap]
    rfl
  · have hempty := slotPrefix_clearedMap (hclears.trans hl)
    rw [htmap, if_neg (Bool.eq_false_iff.1 hsup)]
    rwa [huch, hu.cfg] at hempty
  · rw [hbus, hu.writes, hu.cancelWrites_eq hv hch, ← List.append_assoc]
    rfl
  · rw [hstore, mapCancel_read_addr huv _ (by simp [hu.cfg, Cfg.addrs]), hu.read]
    exact if_pos ⟨hlr, rfl⟩
  · have hread := mapCancel_read_cleared huv hu.wf (hclears.trans hl) hsup
    rwa [← hstore, hu.slotAddr_eq, huch, hu.cfg] at hread
  · have hload := loadBank_mapCancel huv hu.wf hsup
    rw [← hstore, hu.cfg, hubank] at hload
    rw [mapGet, htmap, if_pos hsup, ← hload]
    exact (loadBank_getD _ _ hk hsl).symm
  · rw [hstore]
    exact hu.mapCancel_read hv hch _ hbank hclear hrestore

end Sys2Proof.Machine
end

section
/-! The OutputShaper (42_output_shaper.md): the duration function and the velocity transform (O22), the pulse of a channel in one
TICK (O23) and in a run of TICKs (O24), and the report registers that a TICK latches (O25). -/
namespace Sys2Proof.Machine

/-! ### The duration function and the velocity transform -/

/-- A byte holds a number below 256 without wrap. -/
theorem toNat_ofNat_byte {n : Nat} (h : n < 256) : (BitVec.ofNat 8 n).toNat = n := by
  rw [BitVec.toNat_ofNat, Nat.mod_eq_of_lt h]

/-- With a fixed duration the hold count is the duration of every channel (R202). -/
theorem dur_of_fixed {c : Cfg} (h : c.DUR_MODE = .fixed) (hold : Byte) (ch : Nat) (v : Data7) : dur c hold ch v = hold := by
  simp only [dur, h]

/-- Settles O22: a case per duration mode, role and transform; a 7-bit velocity keeps each value within a byte. -/
theorem durationAndVelocityFunctions : Obligations.DurationAndVelocityFunctions := by
  intro c hold ch v
  have hv : v.toNat < 128 := v.isLt
  constructor
  · cases hmode : c.DUR_MODE with
    | fixed => rw [dur_of_fixed hmode]
    | velocityDerived =>
      simp only [dur, hmode]
      cases c.ROLE.getD ch .pad with
      | pedal => rfl
      | cymbal => exact toNat_ofNat_byte (by omega)
      | pad => exact toNat_ofNat_byte (by omega)
  · rw [xform]
    cases c.VEL_XFORM with
    | identity => exact BitVec.toNat_setWidth_of_le (by omega)
    | inverted => exact toNat_ofNat_byte (by omega)

/-! ### One TICK's pulse -/

/-- The count that a TICK's load leaves in a channel (R203). -/
def loadedCount (c : Cfg) (hold : Byte) (ch : Nat) (x : Channel) : Nat :=
  if x.trig then (dur c hold ch x.lastVel).toNat else x.count.toNat

theorem toNat_loadPulse_count (c : Cfg) (hold : Byte) (ch : Nat) (x : Channel) :
    (loadPulse c hold ch x).count.toNat = loadedCount c hold ch x := by
  rw [loadPulse_count, loadedCount, apply_ite BitVec.toNat]

/-- A channel after the load and the count: active while the loaded count is not 0, and the count one less (R203, R204). -/
structure Pulsed (c : Cfg) (hold : Byte) (ch : Nat) (x y : Channel) : Prop where
  active : y.active = decide (0 < loadedCount c hold ch x)
  count : y.count.toNat = loadedCount c hold ch x - 1
  trig : y.trig = false
  lastVel : y.lastVel = x.lastVel
  forceOn : y.forceOn = x.forceOn

theorem pulsed_countPulse_loadPulse (c : Cfg) (hold : Byte) (ch : Nat) (x : Channel) :
    Pulsed c hold ch x (countPulse (loadPulse c hold ch x)) where
  active := by rw [countPulse_active, toNat_loadPulse_count]
  count := by rw [countPulse_count, toNat_loadPulse_count]
  trig := by simp
  lastVel := by simp
  forceOn := by simp

/-- A TICK pulses every channel with the hold count that its mode step has left (R201, R240). -/
theorem exec_tick_pulsed {s t : State} {lines : List Bool} (h : exec (.tick lines) s = .next t) {ch : Nat} {x : Channel}
    (hx : s.channels[ch]? = some x) : ∃ y, t.channels[ch]? = some y ∧ Pulsed s.cfg t.config.holdDuration ch x y := by
  obtain ⟨rfl, -⟩ := exec_next.1 h
  refine ⟨_, ?_, pulsed_countPulse_loadPulse _ _ _ _⟩
  simp [effect, hx]

/-- Settles O23: every channel is `Pulsed`. -/
theorem tickShapesEveryChannel : Obligations.TickShapesEveryChannel := by
  intro s t lines h
  constructor
  · obtain ⟨rfl, -⟩ := exec_next.1 h
    simp [effect]
  · intro ch x hx loaded
    obtain ⟨y, hy, hpulse⟩ := exec_tick_pulsed h hx
    exact ⟨y, hy, hpulse.active, hpulse.count, hpulse.trig, hpulse.lastVel, hpulse.forceOn⟩

/-! ### A pulse over a run of TICKs -/

/-- A channel `j` TICKs after the one that loaded `n`: active while fewer than `n` have passed, and the rest to count (R209). -/
structure PulseAt (n j : Nat) (y : Channel) : Prop where
  active : y.active = decide (j < n)
  count : y.count.toNat = n - 1 - j
  trig : y.trig = false

/-- The TICK that consumes an activation starts a pulse of the hold count, whatever remained of an earlier one (R203). -/
theorem Pulsed.pulseAt_zero {c : Cfg} {hold : Byte} {ch : Nat} {x y : Channel} (h : Pulsed c hold ch x y)
    (hfixed : c.DUR_MODE = .fixed) (htrig : x.trig = true) : PulseAt hold.toNat 0 y := by
  have hload : loadedCount c hold ch x = hold.toNat := by rw [loadedCount, if_pos htrig, dur_of_fixed hfixed]
  exact ⟨by rw [h.active, hload], by rw [h.count, hload, Nat.sub_zero], h.trig⟩

/-- Each TICK after it moves the pulse on by one, whatever the hold count is by then (R204). -/
theorem PulseAt.succ {n j : Nat} {x : Channel} (hx : PulseAt n j x) {c : Cfg} {hold : Byte} {ch : Nat} {y : Channel}
    (h : Pulsed c hold ch x y) : PulseAt n (j + 1) y := by
  have hload : loadedCount c hold ch x = n - 1 - j := by rw [loadedCount, hx.trig, if_neg Bool.false_ne_true, hx.count]
  refine ⟨?_, by rw [h.count, hload, Nat.sub_sub], h.trig⟩
  rw [h.active, hload, decide_eq_decide]
  omega

/-- Settles O24, by induction on the number of TICKs: the channel is at its pulse's place `j` after TICK `j + 1`. -/
theorem pulseWidthIsHoldDuration : Obligations.PulseWidthIsHoldDuration := by
  intro σ ch x hrun hfixed hx htrig j hj
  suffices hpulse : ∃ y, (σ (j + 1)).channels[ch]? = some y ∧ PulseAt (σ 1).config.holdDuration.toNat j y by
    obtain ⟨y, hy, hat⟩ := hpulse
    exact ⟨y, hy, hat.active⟩
  induction j with
  | zero =>
    obtain ⟨lines, htick⟩ := hrun 0 hj
    obtain ⟨y, hy, hpulsed⟩ := exec_tick_pulsed htick hx
    exact ⟨y, hy, hpulsed.pulseAt_zero hfixed htrig⟩
  | succ j ih =>
    obtain ⟨y, hy, hat⟩ := ih (by omega)
    obtain ⟨lines, htick⟩ := hrun (j + 1) hj
    obtain ⟨z, hz, hpulsed⟩ := exec_tick_pulsed htick hy
    exact ⟨z, hz, hat.succ hpulsed⟩

/-! ### The report -/

/-- The report that ReportStep latches from the other registers (R270). -/
def reportOf (s : State) : Report := (reportStep s).report

@[simp] theorem reportOf_outActive (s : State) : (reportOf s).outActive = s.channels.mapIdx (outactive s) := rfl
@[simp] theorem reportOf_velOut (s : State) : (reportOf s).velOut = s.channels.map (velout s.cfg) := rfl
@[simp] theorem reportOf_btnMask (s : State) : (reportOf s).btnMask = s.buttons.map (btnReport s.mode) := rfl
theorem reportOf_hat (s : State) :
    (reportOf s).hat =
      hatOf ((reportOf s).btnMask.getD s.cfg.BTN_UP false) ((reportOf s).btnMask.getD s.cfg.BTN_DOWN false)
        ((reportOf s).btnMask.getD s.cfg.BTN_LEFT false) ((reportOf s).btnMask.getD s.cfg.BTN_RIGHT false) := rfl

/-- After a TICK the report is that of the registers as the TICK left them (R240, R270). -/
theorem report_of_exec_tick {s t : State} {lines : List Bool} (h : exec (.tick lines) s = .next t) : t.report = reportOf t := by
  obtain ⟨rfl, -⟩ := exec_next.1 h
  rfl

/-- The direction of four buttons, opposites cancelling (R273): vertical first, then horizontal. -/
theorem hatOf_eq : ∀ u d l r : Bool,
    hatOf u d l r =
      if u = d then (if l = r then .neutral else if r then .e else .w)
      else if u then (if l = r then .n else if r then .ne else .nw)
      else (if l = r then .s else if r then .se else .sw) := by decide

/-- Settles O25: `reportOf`, register by register. -/
theorem tickLatchesTheReport : Obligations.TickLatchesTheReport := by
  intro s t lines h
  rw [report_of_exec_tick h]
  refine ⟨by simp, by simp, by simp, fun ch x hx => ⟨?_, ?_⟩, fun i b hb => ?_, fun u d l r hu hd hl hr => ?_, rfl, rfl, rfl, rfl⟩
  · rw [reportOf_outActive, List.getElem?_mapIdx, hx]
    rfl
  · rw [reportOf_velOut, List.getElem?_map, hx]
    rfl
  · rw [reportOf_btnMask, List.getElem?_map, hb]
    rfl
  · rw [reportOf_hat, List.getD_eq_getElem?_getD, List.getD_eq_getElem?_getD, List.getD_eq_getElem?_getD,
      List.getD_eq_getElem?_getD, hu, hd, hl, hr]
    exact hatOf_eq u d l r

end Sys2Proof.Machine
end

section
/-! The ButtonDebouncer (43_button_debouncer.md): one TICK of one button (O27), and a run of TICKs with the line asserted (O28) or
deasserted (O29), as the induction of `button_of_ticks` over a button stable for `k` ticks. -/
namespace Sys2Proof.Machine

/-! ### One TICK of one button -/

/-- TICK steps each button with the sample of its own line (R240). -/
theorem exec_tick_button {s t : State} {lines : List Bool} (h : exec (.tick lines) s = .next t) {i : Nat} {b : Button} {p : Bool}
    (hb : s.buttons[i]? = some b) (hp : lines[i]? = some p) : t.buttons[i]? = some (buttonStep s.cfg b p) := by
  obtain ⟨rfl, -⟩ := exec_next.1 h
  rw [effect, tickEvent_buttons, beginEvent_buttons, beginEvent_cfg, stepButtons_getElem? hb, List.getD_eq_getElem?_getD, hp,
    Option.getD_some]

theorem exec_tick_cfg {s t : State} {lines : List Bool} (h : exec (.tick lines) s = .next t) : t.cfg = s.cfg := by
  obtain ⟨rfl, -⟩ := exec_next.1 h
  rw [effect, tickEvent_cfg, beginEvent_cfg]

section
variable {c : Cfg} {b : Button} {p : Bool}

/-- CHANGED is 1 exactly when the classification has changed (R225). -/
theorem buttonStep_changed_iff : (buttonStep c b p).changed = true ↔ (buttonStep c b p).cls ≠ b.cls := by
  by_cases hp : p = b.pressedRaw
  · rw [buttonStep_of_eq hp, decide_eq_true_iff]
  · rw [buttonStep_of_ne hp, decide_eq_true_iff]

/-- A raw change starts a new run (R221). -/
theorem buttonStep_run_of_ne (hp : p ≠ b.pressedRaw) : (buttonStep c b p).run = 0 := by
  rw [buttonStep_of_ne hp]

theorem buttonStep_cls_of_ne (hp : p ≠ b.pressedRaw) : (buttonStep c b p).cls = rawChangeClass p b.cls := by
  rw [buttonStep_of_ne hp]

/-- A stable sample counts the run up to T_SUPER (R222). -/
theorem buttonStep_run_of_eq (hv : c.valid = true) (hp : p = b.pressedRaw) :
    (buttonStep c b p).run.toNat = min (b.run.toNat + 1) c.T_SUPER := by
  rw [buttonStep_of_eq hp]
  exact nextRun_toNat hv b.run

/-- A stable sample classifies by the run length that it has made (R222). -/
theorem buttonStep_cls_of_eq (hv : c.valid = true) (hp : p = b.pressedRaw) :
    (buttonStep c b p).cls = stableClass c p (buttonStep c b p).run.toNat b.cls := by
  rw [buttonStep_run_of_eq hv hp, buttonStep_of_eq hp, hp, nextRun]

end

section
variable {c : Cfg} {run : Nat}

/-- Below T_PRESS no classification changes (R222). -/
theorem stableClass_of_lt (h : run < c.T_PRESS) (p : Bool) (k : BtnClass) : stableClass c p run k = k := if_pos h

/-- From T_PRESS on a pressed button escalates (R223). -/
theorem stableClass_pressed (h : c.T_PRESS ≤ run) (k : BtnClass) : stableClass c true run k = escalateClass c run k := by
  rw [stableClass, if_neg h.not_gt, if_pos rfl]

/-- From T_PRESS on a released button decays (R224). -/
theorem stableClass_released (h : c.T_PRESS ≤ run) (k : BtnClass) : stableClass c false run k = decayClass k := by
  rw [stableClass, if_neg h.not_gt, if_neg Bool.false_ne_true]

end

/-- Settles O27: the button is `buttonStep`'s, field by field; a stable sample's classification is by the run length and the line. -/
theorem tickStepsEveryButton : Obligations.TickStepsEveryButton := by
  intro s t lines hv h
  constructor
  · obtain ⟨rfl, -⟩ := exec_next.1 h
    simp [effect]
  · intro i b p hb hp
    refine ⟨_, exec_tick_button h hb hp, buttonStep_pressedRaw _ _ _, buttonStep_changed_iff, fun hne => ?_, fun heq => ?_⟩
    · exact ⟨buttonStep_run_of_ne hne, buttonStep_cls_of_ne hne⟩
    · have hcls := buttonStep_cls_of_eq hv heq
      refine ⟨buttonStep_run_of_eq hv heq, fun hlt => ?_, fun hle hpressed => ?_, fun hle hreleased => ?_⟩
      · exact hcls.trans (stableClass_of_lt hlt _ _)
      · subst hpressed
        exact hcls.trans (stableClass_pressed hle _)
      · subst hreleased
        exact hcls.trans (stableClass_released hle _)

/-! ### A button over a run of TICKs -/

/-- Over a run of TICKs with the same sample of one line, what the first step of its button establishes and every further step
moves on by one holds after each TICK. -/
theorem button_of_ticks {σ : Nat → State} {i n : Nat} {b : Button} {p : Bool} {P : Nat → Button → Prop}
    (hb : (σ 0).buttons[i]? = some b)
    (hrun : ∀ j ≤ n, ∃ lines, lines[i]? = some p ∧ exec (.tick lines) (σ j) = .next (σ (j + 1)))
    (hzero : P 0 (buttonStep (σ 0).cfg b p)) (hsucc : ∀ k a, P k a → P (k + 1) (buttonStep (σ 0).cfg a p)) :
    ∀ k ≤ n, ∃ a, (σ (k + 1)).buttons[i]? = some a ∧ P k a := by
  suffices hcfg : ∀ k ≤ n, (σ (k + 1)).cfg = (σ 0).cfg ∧ ∃ a, (σ (k + 1)).buttons[i]? = some a ∧ P k a from
    fun k hk => (hcfg k hk).2
  intro k hk
  induction k with
  | zero =>
    obtain ⟨lines, hp, htick⟩ := hrun 0 hk
    exact ⟨exec_tick_cfg htick, _, exec_tick_button htick hb hp, hzero⟩
  | succ k ih =>
    obtain ⟨hcfg, a, ha, hPa⟩ := ih (by omega)
    obtain ⟨lines, hp, htick⟩ := hrun (k + 1) hk
    refine ⟨(exec_tick_cfg htick).trans hcfg, _, exec_tick_button htick ha hp, ?_⟩
    rw [hcfg]
    exact hsucc k a hPa

/-- A button whose line has been stable at `p` for `k` ticks (R222). -/
structure StableFor (c : Cfg) (p : Bool) (k : Nat) (a : Button) : Prop where
  pressedRaw : a.pressedRaw = p
  run : a.run.toNat = min k c.T_SUPER

theorem stableFor_zero {c : Cfg} {b : Button} {p : Bool} (hp : p ≠ b.pressedRaw) : StableFor c p 0 (buttonStep c b p) where
  pressedRaw := buttonStep_pressedRaw c b p
  run := by rw [buttonStep_run_of_ne hp, Nat.zero_min]; rfl

section
variable {c : Cfg} (hv : c.valid = true) {k : Nat} {a : Button} {p : Bool}
include hv

theorem StableFor.succ (h : StableFor c p k a) : StableFor c p (k + 1) (buttonStep c a p) where
  pressedRaw := buttonStep_pressedRaw c a p
  run := by
    rw [buttonStep_run_of_eq hv h.pressedRaw.symm, h.run]
    omega

/-- The classification of the next stable tick is that of a run of `k + 1` ticks. -/
theorem StableFor.cls_succ (h : StableFor c p k a) :
    (buttonStep c a p).cls = stableClass c p (min (k + 1) c.T_SUPER) a.cls := by
  rw [buttonStep_cls_of_eq hv h.pressedRaw.symm, (h.succ hv).run]

/-- A run that has reached the press threshold has reached it when saturated, too (R227). -/
theorem press_le_min_super (h : c.T_PRESS ≤ k) : c.T_PRESS ≤ min k c.T_SUPER := by
  have := valid_thresholds hv
  omega

end

/-! ### A held button -/

/-- The classification of a button pressed from Up and then held for `k` stable ticks (R228). -/
def heldClass (c : Cfg) (k : Nat) : BtnClass where
  pressed := decide (c.T_PRESS ≤ k)
  held := decide (c.T_HELD ≤ k)
  heldLong := decide (c.T_LONG ≤ k)
  heldSuperLong := decide (c.T_SUPER ≤ k)

/-- A tick changes the classification of a held button exactly when it reaches one of the four thresholds. -/
theorem heldClass_succ_ne_iff (c : Cfg) (k : Nat) :
    heldClass c (k + 1) ≠ heldClass c k ↔
      k + 1 = c.T_PRESS ∨ k + 1 = c.T_HELD ∨ k + 1 = c.T_LONG ∨ k + 1 = c.T_SUPER := by
  have hreach (thr : Nat) : (thr ≤ k + 1 ↔ thr ≤ k) ↔ k + 1 ≠ thr := by omega
  simp only [heldClass, ne_eq, BtnClass.mk.injEq, decide_eq_decide, hreach, and_true]
  tauto

/-- A threshold up to T_SUPER that stable tick `k` has met, or the next tick's saturated run meets, is one that `k + 1` has met. -/
theorem reached_or_reached_next {c : Cfg} {k thr : Nat} (h : thr ≤ c.T_SUPER) :
    (decide (thr ≤ k) || decide (thr ≤ min (k + 1) c.T_SUPER)) = decide (thr ≤ k + 1) := by
  rw [← Bool.decide_or, decide_eq_decide]
  omega

section
variable {c : Cfg} (hv : c.valid = true)
include hv

/-- Before the press threshold a held button is still Up. -/
theorem heldClass_of_lt {k : Nat} (h : k < c.T_PRESS) : heldClass c k = {} := by
  have := valid_thresholds hv
  rw [heldClass, BtnClass.mk.injEq]
  simp only [decide_eq_false_iff_not, and_true]
  omega

/-- One more stable tick adds the flags whose thresholds it reaches, and drops none (R223, R228). -/
theorem stableClass_heldClass (k : Nat) : stableClass c true (min (k + 1) c.T_SUPER) (heldClass c k) = heldClass c (k + 1) := by
  obtain ⟨-, -, hlong, hsuper, -⟩ := valid_thresholds hv
  by_cases hk : c.T_PRESS ≤ k + 1
  · rw [stableClass_pressed (press_le_min_super hv hk), escalateClass, heldClass, heldClass, BtnClass.mk.injEq]
    refine ⟨(decide_eq_true hk).symm, ?_, ?_, ?_, rfl, rfl⟩
    · exact reached_or_reached_next (hlong.trans hsuper)
    · exact reached_or_reached_next hsuper
    · exact reached_or_reached_next le_rfl
  · rw [stableClass_of_lt (min_lt_of_left_lt (not_le.1 hk)), heldClass_of_lt hv (by omega),
      heldClass_of_lt hv (by omega)]

end

/-- A button pressed from Up and held for `k` stable ticks (R228, R229). -/
structure HeldFor (c : Cfg) (k : Nat) (a : Button) : Prop extends StableFor c true k a where
  cls : a.cls = heldClass c k
  changed : a.changed = true ↔ k = c.T_PRESS ∨ k = c.T_HELD ∨ k = c.T_LONG ∨ k = c.T_SUPER

section
variable {c : Cfg} (hv : c.valid = true)
include hv

/-- The press itself changes no classification (R221). -/
theorem heldFor_zero {b : Button} (hraw : b.pressedRaw = false) (hup : b.cls = {}) : HeldFor c 0 (buttonStep c b true) := by
  have hthr := valid_thresholds hv
  have hne : true ≠ b.pressedRaw := by simp [hraw]
  have hcls : (buttonStep c b true).cls = b.cls := buttonStep_cls_of_ne hne
  refine ⟨stableFor_zero hne, by rw [hcls, hup, heldClass_of_lt hv hthr.1], ?_⟩
  rw [buttonStep_changed_iff, hcls]
  exact iff_of_false (fun hchanged => hchanged rfl) (by omega)

theorem HeldFor.succ {k : Nat} {a : Button} (h : HeldFor c k a) : HeldFor c (k + 1) (buttonStep c a true) := by
  have hcls : (buttonStep c a true).cls = heldClass c (k + 1) := by
    rw [h.toStableFor.cls_succ hv, h.cls, stableClass_heldClass hv]
  refine ⟨h.toStableFor.succ hv, hcls, ?_⟩
  rw [buttonStep_changed_iff, hcls, h.cls, heldClass_succ_ne_iff]

end

/-- Settles O28, by induction on the number of TICKs: the button is `HeldFor c k` after TICK `k + 1`. -/
theorem heldButtonClimbsTheThresholds : Obligations.HeldButtonClimbsTheThresholds := by
  intro σ i n b hv hb hraw hup hrun k hk
  obtain ⟨a, ha, hheld⟩ := button_of_ticks hb hrun (heldFor_zero hv hraw hup) (fun _ _ h => h.succ hv) k hk
  exact ⟨a, ha, hheld.pressedRaw, hheld.run, hheld.cls, hheld.changed⟩

/-! ### A released button -/

/-- The classification `k` stable ticks after a release from the classification `before` (R221, R224). -/
def releasedClass (c : Cfg) (before : BtnClass) (k : Nat) : BtnClass :=
  if c.T_PRESS ≤ k then {} else releaseClass before

/-- A Released value decays to Up (R224). -/
theorem decayClass_releaseClass (before : BtnClass) : decayClass (releaseClass before) = {} := by
  rw [releaseClass]
  split <;> rfl

/-- What decays is Up already or a Released value. -/
theorem decayClass_releasedClass (c : Cfg) (before : BtnClass) (k : Nat) : decayClass (releasedClass c before k) = {} := by
  rw [releasedClass]
  split
  · rfl
  · exact decayClass_releaseClass before

/-- A button released from the classification `before`, `k` stable ticks ago. -/
structure ReleasedFor (c : Cfg) (before : BtnClass) (k : Nat) (a : Button) : Prop extends StableFor c false k a where
  cls : a.cls = releasedClass c before k

section
variable {c : Cfg} (hv : c.valid = true)
include hv

/-- Before T_PRESS a stable tick keeps the Released value, from then on it leaves Up (R222, R224). -/
theorem stableClass_releasedClass (before : BtnClass) (k : Nat) :
    stableClass c false (min (k + 1) c.T_SUPER) (releasedClass c before k) = releasedClass c before (k + 1) := by
  by_cases hk : c.T_PRESS ≤ k + 1
  · rw [stableClass_released (press_le_min_super hv hk), decayClass_releasedClass, releasedClass, if_pos hk]
  · rw [stableClass_of_lt (min_lt_of_left_lt (not_le.1 hk)), releasedClass, releasedClass, if_neg (by omega),
      if_neg hk]

theorem releasedFor_zero {b : Button} (hraw : b.pressedRaw = true) : ReleasedFor c b.cls 0 (buttonStep c b false) := by
  have hpress := (valid_thresholds hv).1
  have hne : false ≠ b.pressedRaw := by simp [hraw]
  refine ⟨stableFor_zero hne, ?_⟩
  rw [buttonStep_cls_of_ne hne, releasedClass, if_neg (by omega), rawChangeClass, if_neg Bool.false_ne_true]

theorem ReleasedFor.succ {before : BtnClass} {k : Nat} {a : Button} (h : ReleasedFor c before k a) :
    ReleasedFor c before (k + 1) (buttonStep c a false) := by
  refine ⟨h.toStableFor.succ hv, ?_⟩
  rw [h.toStableFor.cls_succ hv, h.cls, stableClass_releasedClass hv]

end

/-- Settles O29, by induction on the number of TICKs: the button is `ReleasedFor c b.cls k` after TICK `k + 1`. -/
theorem releasedButtonDecaysToUp : Obligations.ReleasedButtonDecaysToUp := by
  intro σ i n b hv hb hraw hrun k hk
  obtain ⟨a, ha, hreleased⟩ := button_of_ticks hb hrun (releasedFor_zero hv hraw) (fun _ _ h => h.succ hv) k hk
  exact ⟨a, ha, hreleased.pressedRaw, hreleased.cls⟩

end Sys2Proof.Machine
end

section
/-! The ModeController (44_mode_controller.md): what every TICK keeps (O26), the TICKs whose mode step writes the mode registers
alone, as in command mode (O31), without an edge (O32) and on a transition (O30), and a run of toggles (O33). -/
namespace Sys2Proof.Machine

/-! ### What every TICK keeps -/

/-- The registers of a channel that no step of TICK writes (R21). -/
def lastVelAndForce (x : Channel) : Data7 × Bool := (x.lastVel, x.forceOn)

/-- The pulse of a TICK writes neither the velocity nor the forced output of a channel (R203, R204). -/
theorem tickEvent_lastVelAndForce (lines : List Bool) (s : State) :
    (tickEvent lines s).channels.map lastVelAndForce = s.channels.map lastVelAndForce := by
  refine List.ext_getElem (by simp) fun i _ _ => ?_
  simp only [tickEvent_channels, List.getElem_map, List.getElem_mapIdx, lastVelAndForce, countPulse_lastVel,
    countPulse_forceOn, loadPulse_lastVel, loadPulse_forceOn]

/-- Settles O26: field by field what `tickEvent` keeps. -/
theorem tickCompletesAndKeeps : Obligations.TickCompletesAndKeeps := by
  intro s lines hv
  refine ⟨tickEvent lines (beginEvent s), exec_of_ne_reset (by rintro _ ⟨⟩) hv, tickEvent_lineRaw _ _, tickEvent_parser _ _,
    tickEvent_resp _ _, ?_, ?_, ?_, ?_, ?_, tickEvent_lastVelAndForce _ _, tickEvent_cfg _ _, tickEvent_pending _ _,
    tickEvent_awaitingReset _ _⟩
  · rw [tickEvent_mode, modeStep_cmdMode, sampleStep_mode, beginEvent_mode]
  · rw [tickEvent_mode, modeStep_logEn, sampleStep_mode, beginEvent_mode]
  · rw [tickEvent_mode, modeStep_distress, sampleStep_mode, beginEvent_mode]
  · rw [tickEvent_config, modeStep_swapNote, sampleStep_config, beginEvent_config]
  · rw [tickEvent_config, modeStep_hhThreshold, sampleStep_config, beginEvent_config]

/-! ### TICKs that write the mode registers alone -/

/-- A TICK from `s` to `t` that leaves the mode registers at `m`, keeps the configuration, MAP and STORE, makes no store call, and
debounces the buttons as always. -/
structure ModeOnlyTick (lines : List Bool) (s t : State) (m : ModeRegs) : Prop where
  mode : t.mode = m
  config : t.config = s.config
  map : t.map = s.map
  store : t.store = s.store
  bus : t.bus = []
  buttons : t.buttons = stepButtons s.cfg s.buttons lines

/-- If the mode step writes the mode registers alone, the TICK answers a next state, whatever CFG is. -/
theorem exec_tick_of_modeStep {s : State} {lines : List Bool} {m : ModeRegs}
    (h : modeStep (tickRose lines s) (sampleStep lines (beginEvent s)) = { sampleStep lines (beginEvent s) with mode := m }) :
    ∃ t, exec (.tick lines) s = .next t ∧ ModeOnlyTick lines s t m := by
  have hstep : afterModeStep lines (beginEvent s) = { sampleStep lines (beginEvent s) with mode := m } := h
  have hbus : (effect (.tick lines) (beginEvent s)).bus = [] := by rw [effect, tickEvent_bus, hstep]; rfl
  refine ⟨_, exec_of_bus_nil hbus, ?_, ?_, ?_, ?_, hbus, tickEvent_buttons _ _⟩
  · rw [effect, tickEvent_mode, hstep]
  · rw [effect, tickEvent_config, hstep]; rfl
  · rw [effect, tickEvent_map, hstep]; rfl
  · rw [effect, tickEvent_store, hstep]; rfl

/-- Settles O31: in command mode the mode step writes nothing. -/
theorem commandModeSuspendsTheController : Obligations.CommandModeSuspendsTheController := by
  intro s lines hcmd
  obtain ⟨t, ht, hmode, hconfig, hmap, hstore, hbus, hbuttons⟩ :=
    exec_tick_of_modeStep (s := s) (lines := lines) (m := s.mode) (modeStep_of_cmd hcmd)
  exact ⟨t, ht, hmode, hconfig, hmap, hstore, hbus, hbuttons⟩

/-- The buttons that the actions of the programming modes read (R250 to R264). -/
def actionButtons (c : Cfg) : List Nat := [c.BTN_UP, c.BTN_DOWN, c.BTN_LEFT, c.BTN_RIGHT, c.BTN_CANCEL]

/-- Without an edge of the action buttons and without the swap gesture no mode has an action (R246 to R264). -/
theorem modeActions_of_no_edge {rose : Nat → BtnClass} {s : State} (hact : ∀ i ∈ actionButtons s.cfg, rose i = {})
    (hswap : ∀ i, s.cfg.BTN_SWAP = some i → (rose i).held = false) : modeActions rose s = s := by
  simp only [actionButtons, List.forall_mem_cons] at hact
  obtain ⟨hup, hdown, hleft, hright, hcancel, -⟩ := hact
  rw [modeActions]
  split
  · exact playActions_of_not_held hswap
  · simp only [mapActions, hup, hdown, hleft, hright, hcancel, onEdge, Bool.false_eq_true, if_false]
  · simp only [velocityActions, hup, hdown, hcancel, onEdge, Bool.false_eq_true, if_false]
  · simp only [durationActions, hup, hdown, hcancel, onEdge, Bool.false_eq_true, if_false]

/-- If no button has an edge, none has one at any index (R226). -/
theorem tickRose_eq_empty {s : State} {lines : List Bool} (h : ∀ i < s.buttons.length, tickRose lines s i = {}) (i : Nat) :
    tickRose lines s i = {} := by
  by_cases hi : i < s.buttons.length
  · exact h i hi
  · rw [tickRose, roseAt, List.getElem?_eq_none (not_lt.1 hi)]

/-- Settles O32: without an edge there is neither a transition nor an action. -/
theorem tickWithoutEdgeDoesNothing : Obligations.TickWithoutEdgeDoesNothing := by
  intro s lines hrose
  have hnone := tickRose_eq_empty hrose
  have hidle : modeStep (tickRose lines s) (sampleStep lines (beginEvent s)) = sampleStep lines (beginEvent s) := by
    cases hcmd : s.mode.cmdMode with
    | true => exact modeStep_of_cmd hcmd
    | false =>
      have hno : transition s.cfg (tickRose lines s) s.mode = none :=
        transition_of_not_held (by rw [hnone]) (by rw [hnone])
      rw [modeStep_of_none (s := sampleStep lines (beginEvent s)) hcmd hno]
      exact modeActions_of_no_edge (fun i _ => hnone i) (fun i _ => by rw [hnone])
  obtain ⟨t, ht, hmode, hconfig, hmap, hstore, hbus, -⟩ := exec_tick_of_modeStep (m := s.mode) hidle
  exact ⟨t, ht, hmode, hconfig, hmap, hstore, hbus⟩

/-! ### The transitions -/

/-- R242's table: the mode after the Held edges of the toggle and the cycle button. -/
def nextMode : Mode → (toggle cycle : Bool) → Mode
  | .play, true, _ => .programMap
  | .play, false, _ => .play
  | .programMap, true, _ => .play
  | .programMap, false, true => .programVelocity
  | .programVelocity, _, true => .programDuration
  | .programDuration, _, true => .programMap
  | m, _, _ => m

/-- The mode after a transition, or the same mode where none is made, is R242's table entry, compared entry by entry. -/
theorem mode_getD_transition (c : Cfg) (rose : Nat → BtnClass) (m : ModeRegs) :
    ((transition c rose m).getD m).mode = nextMode m.mode (rose c.BTN_MODE).held (rose c.BTN_CYCLE).held := by
  cases hm : m.mode <;> cases htoggle : (rose c.BTN_MODE).held <;> cases hcycle : (rose c.BTN_CYCLE).held <;>
    simp [transition, nextMode, hm, htoggle, hcycle]

/-- What a transition does to the selected channel: from Play it selects channel 0, into Play it deselects, and between two
programming modes it keeps the selection (R39, R242). -/
theorem transition_selection {c : Cfg} {rose : Nat → BtnClass} {m m' : ModeRegs} (h : transition c rose m = some m') :
    (m.mode = .play → m'.progValid = true ∧ m'.progCh = 0) ∧
    (m'.mode = .play → m'.progValid = false ∧ m'.progCh = m.progCh) ∧
    (m.mode ≠ .play → m'.mode ≠ .play → m'.progValid = m.progValid ∧ m'.progCh = m.progCh) := by
  simp only [transition] at h
  split at h
  · next hedge => cases h; simp [hedge.2]
  · split at h
    · next hedge => cases h; simp [hedge.2]
    · split at h
      · split at h
        · cases h
        all_goals
          next hm => cases h; simp [hm]
      · cases h

/-- A TICK outside command mode with a transition writes the mode registers alone (R241). -/
theorem exec_tick_of_transition {s : State} {lines : List Bool} {m : ModeRegs} (hcmd : s.mode.cmdMode = false)
    (ht : transition s.cfg (tickRose lines s) s.mode = some m) :
    ∃ t, exec (.tick lines) s = .next t ∧ ModeOnlyTick lines s t m :=
  exec_tick_of_modeStep (modeStep_of_transition (s := sampleStep lines (beginEvent s)) hcmd ht)

/-- Settles O30: on a transition the TICK writes the mode registers alone; without one the actions keep the mode. -/
theorem tickTransitionTable : Obligations.TickTransitionTable := by
  intro s lines hv hcmd
  have htable := mode_getD_transition s.cfg (tickRose lines s) s.mode
  cases htr : transition s.cfg (tickRose lines s) s.mode with
  | none =>
    obtain ⟨t, ht, hmode, -⟩ := exec_tick_of_no_transition hv hcmd htr
    have hkept : t.mode.mode = s.mode.mode := by
      rw [hmode]
      exact (congrArg ModeRegs.mode (modeActions_mode (tickRose lines s) (sampleStep lines (beginEvent s))) :)
    rw [htr, Option.getD_none] at htable
    exact ⟨t, ht, hkept.trans htable, fun hne => absurd hkept hne⟩
  | some m =>
    obtain ⟨t, ht, rfl, hconfig, hmap, hstore, hbus, -⟩ := exec_tick_of_transition hcmd htr
    rw [htr, Option.getD_some] at htable
    exact ⟨t, ht, htable, fun _ => ⟨hmap, hstore, hbus, hconfig, transition_selection htr⟩⟩

/-! ### A run of toggles -/

/-- The mode after `k` toggles from Play (R242). -/
def toggledMode (k : Nat) : Mode := if k % 2 = 0 then .play else .programMap

/-- One more Held edge of the toggle button is one more toggle (R242). -/
theorem nextMode_toggledMode (k : Nat) (toggle : Bool) :
    nextMode (toggledMode k) toggle false = toggledMode (k + toggle.toNat) := by
  rcases Nat.mod_two_eq_zero_or_one k with hk | hk <;> cases toggle <;> simp [toggledMode, nextMode, Nat.add_mod, hk]

/-- In Play and in ProgramMap the toggle button's Held edge makes a transition (R242). -/
theorem not_held_of_no_transition {c : Cfg} {rose : Nat → BtnClass} {m : ModeRegs} {k : Nat} (hm : m.mode = toggledMode k)
    (h : transition c rose m = none) : (rose c.BTN_MODE).held = false := by
  by_contra hheld
  rw [toggledMode] at hm
  split at hm <;> simp [transition, hm, hheld] at h

/-- The toggle button is neither an action button nor the cycle button (R10). -/
theorem toggle_button_ne {c : Cfg} (hv : c.valid = true) :
    (∀ i ∈ actionButtons c, i ≠ c.BTN_MODE) ∧ c.BTN_CYCLE ≠ c.BTN_MODE := by
  have hnodup : (actionButtons c ++ [c.BTN_MODE, c.BTN_CYCLE]).Nodup := valid_buttons_nodup hv
  obtain ⟨-, hpair, hdisjoint⟩ := List.nodup_append.1 hnodup
  exact ⟨fun i hi => hdisjoint i hi _ (by simp), fun h => by simp [h] at hpair⟩

/-- What `k` toggles from Play leave of `s`, with TICKs that have no other edge between them (R275). -/
structure Toggled (k : Nat) (s t : State) : Prop where
  cfg : t.cfg = s.cfg
  cmdMode : t.mode.cmdMode = false
  mode : t.mode.mode = toggledMode k
  map : t.map = s.map
  store : t.store = s.store
  config : t.config = s.config
  channels : t.channels.map lastVelAndForce = s.channels.map lastVelAndForce

section
variable {s₀ s : State} {lines : List Bool} {k : Nat} (hv : s.cfg.valid = true) (h : Toggled k s₀ s)
  (hrose : ∀ i, i ≠ s.cfg.BTN_MODE → tickRose lines s i = {})
include hv h hrose

/-- If only the toggle button has edges, the TICK makes a transition or none, and has no action (R246 to R255). -/
theorem Toggled.exec_tick : ∃ t, exec (.tick lines) s = .next t ∧
    ModeOnlyTick lines s t ((transition s.cfg (tickRose lines s) s.mode).getD s.mode) := by
  cases htr : transition s.cfg (tickRose lines s) s.mode with
  | some m => exact exec_tick_of_transition h.cmdMode htr
  | none =>
    have hheld := not_held_of_no_transition h.mode htr
    have hidle : modeActions (tickRose lines s) (sampleStep lines (beginEvent s)) = sampleStep lines (beginEvent s) := by
      refine modeActions_of_no_edge (fun i hi => hrose i ((toggle_button_ne hv).1 i hi)) (fun i _ => ?_)
      by_cases hi : i = s.cfg.BTN_MODE
      · rw [hi, hheld]
      · rw [hrose i hi]
    exact exec_tick_of_modeStep ((modeStep_of_none (s := sampleStep lines (beginEvent s)) h.cmdMode htr).trans hidle)

/-- One TICK more is one toggle more if the toggle button has its Held edge (R275). -/
theorem Toggled.tick {t : State} (ht : exec (.tick lines) s = .next t) :
    Toggled (k + (tickRose lines s s.cfg.BTN_MODE).held.toNat) s₀ t := by
  obtain ⟨t₁, ht₁, hregs, hconfig, hmap, hstore, -, -⟩ := h.exec_tick hv hrose
  obtain ⟨t₂, ht₂, -, -, -, hcmd, -, -, -, -, hchannels, hcfg, -, -⟩ := tickCompletesAndKeeps s lines hv
  cases ht.symm.trans ht₁
  cases ht.symm.trans ht₂
  have hmode : t.mode.mode = toggledMode (k + (tickRose lines s s.cfg.BTN_MODE).held.toNat) := by
    rw [hregs, mode_getD_transition, hrose _ (toggle_button_ne hv).2, h.mode, nextMode_toggledMode]
  exact ⟨hcfg.trans h.cfg, hcmd.trans h.cmdMode, hmode, hmap.trans h.map, hstore.trans h.store, hconfig.trans h.config,
    hchannels.trans h.channels⟩

end

/-- The Held edges of the toggle button in the first `n` TICKs of a run. -/
def toggleEdges (σ : Nat → State) (lines : Nat → List Bool) (n : Nat) : Nat :=
  ((List.range n).filter (fun j => (tickRose (lines j) (σ j) (σ j).cfg.BTN_MODE).held)).length

theorem toggleEdges_succ (σ : Nat → State) (lines : Nat → List Bool) (n : Nat) :
    toggleEdges σ lines (n + 1) = toggleEdges σ lines n + (tickRose (lines n) (σ n) (σ n).cfg.BTN_MODE).held.toNat := by
  rw [toggleEdges, toggleEdges, List.range_succ, List.filter_append, List.length_append, List.filter_singleton]
  cases (tickRose (lines n) (σ n) (σ n).cfg.BTN_MODE).held <;> rfl

/-- Settles O33, by induction on the number of TICKs: the state is `Toggled` by the Held edges so far. -/
theorem toggleRoundTripKeepsTheMap : Obligations.ToggleRoundTripKeepsTheMap := by
  intro σ lines n hv hplay hcmd hrun
  have htoggled : Toggled (toggleEdges σ lines n) (σ 0) (σ n) := by
    induction n with
    | zero => exact ⟨rfl, hcmd, hplay, rfl, rfl, rfl, rfl⟩
    | succ n ih =>
      have h := ih fun j hj => hrun j (by omega)
      obtain ⟨ht, hrose⟩ := hrun n n.lt_succ_self
      rw [toggleEdges_succ]
      exact h.tick (h.cfg ▸ hv) hrose ht
  exact ⟨htoggled.map, htoggled.store, htoggled.config, htoggled.channels, htoggled.mode⟩

end Sys2Proof.Machine
end

section
/-! The actions of the programming modes without transition (44_mode_controller.md): Up and Down in ProgramMap (O35), and in
ProgramVelocity (O38) and ProgramDuration (O39) the three actions that write a configuration register through to its byte. -/
namespace Sys2Proof.Machine

/-! ### Up and Down in ProgramMap -/

/-- The channel that Up and Down select fits its register (R250). -/
theorem selectedChannel_lt_128 {s : State} (hv : s.cfg.valid = true) (rose : Nat → BtnClass) :
    selectedChannel rose s < 128 := by
  have hC := (valid_sizes hv).2.1
  have hch := s.mode.progCh.isLt
  unfold selectedChannel
  dsimp only
  split_ifs <;> omega

/-- Of the mode registers the actions of ProgramMap write PROG_CH alone (R250). -/
theorem mapActions_mode {s : State} (hv : s.cfg.valid = true) (rose : Nat → BtnClass) :
    (mapActions rose s).mode = { s.mode with progCh := BitVec.ofNat 7 (selectedChannel rose s) } := by
  simp only [mapActions, onEdge_restoreActive_mode, onEdge_clearSelected_mode, onEdge_selectBank_mode, progCh_upDown hv]
  rfl

/-- Without an edge of Left, Right and cancel the actions of ProgramMap do no more than that (R250 to R255). -/
theorem mapActions_of_no_bank_edge {s : State} (hv : s.cfg.valid = true) {rose : Nat → BtnClass}
    (hleft : (rose s.cfg.BTN_LEFT).pressed = false) (hright : (rose s.cfg.BTN_RIGHT).pressed = false)
    (hlong : (rose s.cfg.BTN_CANCEL).heldLong = false) (hsuper : (rose s.cfg.BTN_CANCEL).heldSuperLong = false) :
    mapActions rose s = { s with mode := { s.mode with progCh := BitVec.ofNat 7 (selectedChannel rose s) } } := by
  simp only [mapActions, hleft, hright, hlong, hsuper]
  exact progCh_upDown hv _ _

/-- Settles O35: the TICK's effect is `mapActions`, whose PROG_CH is `selectedChannel`. -/
theorem mapUpDownSelectTheChannel : Obligations.MapUpDownSelectTheChannel := by
  intro s lines hv hcmd hmap hheld hcycle up down
  obtain ⟨t, ht, hmode, hconfig, hcache, hstore, hbus⟩ :=
    exec_tick_of_no_transition hv hcmd (transition_of_not_held hheld hcycle)
  have hactions : modeActions (tickRose lines s) (sampleStep lines (beginEvent s)) =
      mapActions (tickRose lines s) (sampleStep lines (beginEvent s)) := by
    simp only [modeActions, sampleStep_mode, beginEvent_mode, hmap]
  rw [hactions] at hmode hconfig hcache hstore hbus
  have hch : t.mode = { s.mode with progCh := BitVec.ofNat 7 down } :=
    hmode.trans (mapActions_mode (s := sampleStep lines (beginEvent s)) hv _)
  refine ⟨t, ht, ?_, by rw [hch], fun hleft hright hlong hsuper => ?_⟩
  · rw [hch]
    exact Nat.mod_eq_of_lt (selectedChannel_lt_128 hv (tickRose lines s))
  · rw [mapActions_of_no_bank_edge (s := sampleStep lines (beginEvent s)) hv hleft hright hlong hsuper]
      at hconfig hcache hstore hbus
    exact ⟨hconfig, hcache, hstore, hbus⟩

/-! ### Actions that write one configuration register through -/

/-- A configuration register that is written through (R42, R70): the address of its byte, and how it is read and set. -/
structure ConfigReg where
  addr : Cfg → Nat
  get : ConfigRegs → Byte
  set : Byte → ConfigRegs → ConfigRegs
  get_set : ∀ v r, get (set v r) = v
  set_get : ∀ r, set (get r) r = r
  set_set : ∀ v w r, set v (set w r) = set v r

/-- The register at `v`, and its StoreWrite. -/
def ConfigReg.write (reg : ConfigReg) (v : Byte) (s : State) : State :=
  storeWrite (reg.addr s.cfg) v { s with config := reg.set v s.config }

/-- From `s` to `t` actions have written the register through, which is now `v`, and nothing else; `ws` are their StoreWrites, and
`any` says that there has been one. -/
structure WrittenThrough (reg : ConfigReg) (s t : State) (ws : List (Nat × Byte)) (any : Bool) (v : Byte) : Prop where
  cfg : t.cfg = s.cfg
  config : t.config = reg.set v s.config
  mode : t.mode = s.mode
  map : t.map = s.map
  writes : storesOf t.bus = storesOf s.bus ++ ws
  wf : t.store.wf = true
  read : ∀ a, t.store.read a = if a = reg.addr s.cfg ∧ any = true then v else s.store.read a

theorem WrittenThrough.refl (reg : ConfigReg) {s : State} (hs : s.store.wf = true) :
    WrittenThrough reg s s [] false (reg.get s.config) :=
  ⟨rfl, (reg.set_get _).symm, rfl, rfl, (List.append_nil _).symm, hs, by simp⟩

section
variable {reg : ConfigReg} {s t : State} {ws : List (Nat × Byte)} {any : Bool} {v : Byte} (h : WrittenThrough reg s t ws any v)
include h

theorem WrittenThrough.get_config : reg.get t.config = v := by
  rw [h.config, reg.get_set]

/-- One more action: if its edge fired it writes `w`, and if not the register is at `w` already. -/
theorem WrittenThrough.edge {fired : Bool} {f : State → State} {w : Byte} (hf : fired = true → f t = reg.write w t)
    (hkeep : fired = false → w = v) :
    WrittenThrough reg s (onEdge fired f t) (ws ++ if fired then [(reg.addr s.cfg, w)] else []) (any || fired) w := by
  cases fired with
  | false =>
    rw [hkeep rfl, if_neg Bool.false_ne_true, List.append_nil, Bool.or_false]
    exact h
  | true =>
    rw [onEdge, if_pos rfl, if_pos rfl, Bool.or_true, hf rfl, ConfigReg.write, h.cfg]
    refine ⟨rfl, ?_, h.mode, h.map, ?_, wf_write h.wf _ _, fun a => ?_⟩
    · rw [storeWrite_config, h.config, reg.set_set]
    · rw [storeWrite_bus, storesOf_append, h.writes, List.append_assoc]
      rfl
    · rw [storeWrite_store, read_write h.wf, h.read]
      by_cases ha : a = reg.addr s.cfg <;> simp [ha]

end

/-- The three actions of ProgramVelocity and of ProgramDuration: Up and Down move the register, cancel restores its default. -/
def levelActions (reg : ConfigReg) (stepUp stepDown : Byte → Byte) (dflt : Byte) (up down cancel : Bool) (s : State) : State :=
  onEdge cancel (reg.write dflt)
    (onEdge down (fun t => reg.write (stepDown (reg.get t.config)) t)
      (onEdge up (fun t => reg.write (stepUp (reg.get t.config)) t) s))

/-- The three actions write the register through, from `v₁` after Up over `v₂` after Down to `v₃` after cancel. -/
theorem writtenThrough_levelActions (reg : ConfigReg) {s : State} (hs : s.store.wf = true) {stepUp stepDown : Byte → Byte}
    {dflt v₁ v₂ v₃ : Byte} {up down cancel : Bool}
    (hup : v₁ = if up then stepUp (reg.get s.config) else reg.get s.config)
    (hdown : v₂ = if down then stepDown v₁ else v₁) (hcancel : v₃ = if cancel then dflt else v₂) :
    WrittenThrough reg s (levelActions reg stepUp stepDown dflt up down cancel s)
      ((if up then [(reg.addr s.cfg, v₁)] else []) ++ (if down then [(reg.addr s.cfg, v₂)] else []) ++
        (if cancel then [(reg.addr s.cfg, dflt)] else [])) (up || down || cancel) v₃ := by
  have h₁ := (WrittenThrough.refl reg hs).edge (fired := up) (f := fun t => reg.write (stepUp (reg.get t.config)) t) (w := v₁)
    (fun h => by rw [hup, if_pos h]) (fun h => by simp [hup, h])
  have h₂ := h₁.edge (fired := down) (f := fun t => reg.write (stepDown (reg.get t.config)) t) (w := v₂)
    (fun h => by rw [hdown, if_pos h, h₁.get_config]) (fun h => by simp [hdown, h])
  have h₃ := h₂.edge (fired := cancel) (f := reg.write dflt) (w := v₃)
    (fun h => by rw [hcancel, if_pos h]) (fun h => by simp [hcancel, h])
  have hlast : (if cancel then [(reg.addr s.cfg, dflt)] else []) = if cancel then [(reg.addr s.cfg, v₃)] else [] := by
    rw [hcancel]
    split_ifs <;> rfl
  rw [hlast]
  exact h₃

/-- A TICK without transition whose actions write one register through answers a next state with that effect (R240, R241). -/
theorem exec_tick_of_writtenThrough {reg : ConfigReg} {s : State} {lines : List Bool} {ws : List (Nat × Byte)} {any : Bool}
    {v : Byte} (hv : s.cfg.valid = true) (hcmd : s.mode.cmdMode = false)
    (htr : transition s.cfg (tickRose lines s) s.mode = none)
    (h : WrittenThrough reg (sampleStep lines (beginEvent s))
      (modeActions (tickRose lines s) (sampleStep lines (beginEvent s))) ws any v) :
    ∃ t, exec (.tick lines) s = .next t ∧ t.config = reg.set v s.config ∧ t.mode = s.mode ∧ t.map = s.map ∧
      storesOf t.bus = ws ∧ ∀ a, t.store.read a = if a = reg.addr s.cfg ∧ any = true then v else s.store.read a := by
  obtain ⟨t, ht, hmode, hconfig, hmap, hstore, hbus⟩ := exec_tick_of_no_transition hv hcmd htr
  refine ⟨t, ht, hconfig.trans h.config, hmode.trans h.mode, hmap.trans h.map, ?_, fun a => ?_⟩
  · rw [hbus, h.writes]
    rfl
  · rw [hstore]
    exact h.read a

/-- Outside Play and ProgramMap only the cycle button makes a transition (R242). -/
theorem transition_of_cycle_not_held {c : Cfg} {rose : Nat → BtnClass} {m : ModeRegs} (hplay : m.mode ≠ .play)
    (hmap : m.mode ≠ .programMap) (h : (rose c.BTN_CYCLE).held = false) : transition c rose m = none := by
  simp [transition, hplay, hmap, h]

/-! ### ProgramVelocity -/

/-- VEL_THRESHOLD. -/
def velThresholdReg : ConfigReg where
  addr := Cfg.ADDR_VELTHR
  get := ConfigRegs.velThreshold
  set v r := { r with velThreshold := v }
  get_set _ _ := rfl
  set_get _ := rfl
  set_set _ _ _ := rfl

/-- The actions of ProgramVelocity move VEL_THRESHOLD by VEL_STEP (R258 to R260). -/
theorem velocityActions_eq (rose : Nat → BtnClass) (s : State) :
    velocityActions rose s =
      levelActions velThresholdReg (fun v => velStep s.cfg v s.cfg.VEL_STEP) (fun v => velStep s.cfg v (-(s.cfg.VEL_STEP : Int)))
        s.cfg.DEF_VELTHR (rose s.cfg.BTN_UP).pressed (rose s.cfg.BTN_DOWN).pressed (rose s.cfg.BTN_CANCEL).held s := by
  dsimp only [velocityActions]
  cases (rose s.cfg.BTN_UP).pressed <;> rfl

/-- Up is clamped at six steps (R258). -/
theorem velStep_up (c : Cfg) (v : Byte) :
    velStep c v c.VEL_STEP = BitVec.ofNat 8 (min (v.toNat + c.VEL_STEP) (6 * c.VEL_STEP)) := by
  rw [velStep, clamp]
  congr 1
  omega

/-- Down is clamped at zero, and at six steps, too (R259). -/
theorem velStep_down (c : Cfg) {n : Nat} (hn : n < 256) :
    velStep c (BitVec.ofNat 8 n) (-(c.VEL_STEP : Int)) = BitVec.ofNat 8 (min (n - c.VEL_STEP) (6 * c.VEL_STEP)) := by
  rw [velStep, clamp, toNat_ofNat_byte hn]
  congr 1
  omega

/-- Settles O38: the actions are `levelActions` of VEL_THRESHOLD, which `velStep` clamps at six steps. -/
theorem velocityActionsMoveTheThreshold : Obligations.VelocityActionsMoveTheThreshold := by
  intro s lines hv hs hcmd hmode hcycle up down cancel top v1 v2 v3 addr
  have hv1 : v1 < 256 := by
    have := valid_defaults hv
    have := s.config.velThreshold.isLt
    unfold v1 top
    split_ifs <;> omega
  have hup : BitVec.ofNat 8 v1 = if up then velStep s.cfg s.config.velThreshold s.cfg.VEL_STEP else s.config.velThreshold := by
    unfold v1
    split_ifs
    · exact (velStep_up _ _).symm
    · exact BitVec.ofNat_toNat _ _
  have hdown : BitVec.ofNat 8 v2 =
      if down then velStep s.cfg (BitVec.ofNat 8 v1) (-(s.cfg.VEL_STEP : Int)) else BitVec.ofNat 8 v1 := by
    unfold v2
    split_ifs
    · exact (velStep_down _ hv1).symm
    · rfl
  have hactions : modeActions (tickRose lines s) (sampleStep lines (beginEvent s)) =
      velocityActions (tickRose lines s) (sampleStep lines (beginEvent s)) := by
    simp only [modeActions, sampleStep_mode, beginEvent_mode, hmode]
  refine exec_tick_of_writtenThrough (reg := velThresholdReg) hv hcmd
    (transition_of_cycle_not_held (by simp [hmode]) (by simp [hmode]) hcycle) ?_
  rw [hactions, velocityActions_eq]
  exact writtenThrough_levelActions velThresholdReg (s := sampleStep lines (beginEvent s)) hs.1 hup hdown rfl

/-! ### ProgramDuration -/

/-- HOLD_DURATION. -/
def holdDurationReg : ConfigReg where
  addr := Cfg.ADDR_HOLD
  get := ConfigRegs.holdDuration
  set v r := { r with holdDuration := v }
  get_set _ _ := rfl
  set_get _ := rfl
  set_set _ _ _ := rfl

/-- The actions of ProgramDuration move HOLD_DURATION by one (R262 to R264). -/
theorem durationActions_eq (rose : Nat → BtnClass) (s : State) :
    durationActions rose s =
      levelActions holdDurationReg (fun v => holdStep v 1) (fun v => holdStep v (-1))
        s.cfg.DEF_HOLD (rose s.cfg.BTN_UP).pressed (rose s.cfg.BTN_DOWN).pressed (rose s.cfg.BTN_CANCEL).held s := rfl

/-- Up is clamped at six (R262). -/
theorem holdStep_up (v : Byte) : holdStep v 1 = BitVec.ofNat 8 (max 1 (min (v.toNat + 1) 6)) := by
  rw [holdStep, clamp]
  congr 1
  omega

/-- Down is clamped at one, and at six, too (R263). -/
theorem holdStep_down {n : Nat} (hn : n < 256) : holdStep (BitVec.ofNat 8 n) (-1) = BitVec.ofNat 8 (max 1 (min (n - 1) 6)) := by
  rw [holdStep, clamp, toNat_ofNat_byte hn]
  congr 1
  omega

/-- Settles O39: the actions are `levelActions` of HOLD_DURATION, which `holdStep` clamps to 1..6. -/
theorem durationActionsMoveTheHold : Obligations.DurationActionsMoveTheHold := by
  intro s lines hv hs hcmd hmode hcycle up down cancel v1 v2 v3 addr
  have hv1 : v1 < 256 := by
    have := s.config.holdDuration.isLt
    unfold v1
    split_ifs <;> omega
  have hup : BitVec.ofNat 8 v1 = if up then holdStep s.config.holdDuration 1 else s.config.holdDuration := by
    unfold v1
    split_ifs
    · exact (holdStep_up _).symm
    · exact BitVec.ofNat_toNat _ _
  have hdown : BitVec.ofNat 8 v2 = if down then holdStep (BitVec.ofNat 8 v1) (-1) else BitVec.ofNat 8 v1 := by
    unfold v2
    split_ifs
    · exact (holdStep_down hv1).symm
    · rfl
  have hactions : modeActions (tickRose lines s) (sampleStep lines (beginEvent s)) =
      durationActions (tickRose lines s) (sampleStep lines (beginEvent s)) := by
    simp only [modeActions, sampleStep_mode, beginEvent_mode, hmode]
  refine exec_tick_of_writtenThrough (reg := holdDurationReg) hv hcmd
    (transition_of_cycle_not_held (by simp [hmode]) (by simp [hmode]) hcycle) ?_
  rw [hactions, durationActions_eq]
  exact writtenThrough_levelActions holdDurationReg (s := sampleStep lines (beginEvent s)) hs.1 hup hdown rfl

end Sys2Proof.Machine
end

section
/-! The HostCommandProcessor (45_host_commands.md), the requests that make no store call: what a request decodes to and the frame of
every request (O47), the nine reads (O40), FORCE_OUTPUT (O44), command mode (O45), and the two requests without an operation
(O46). -/
namespace Sys2Proof.Machine

/-! ### What a request decodes to -/

/-- A request that decodes is eight bytes, of which the first two select the instruction (R100, R280). -/
theorem request_of_decode {c : Cfg} {m : MState} {req : List Byte} {i : Instr} (h : decode c m (.hostreq req) = .ok i) :
    ∃ pfx op a, req = requestBytes pfx op a ∧ i = decodeRequest c pfx op a := by
  generalize he : Event.hostreq req = e at h
  revert h
  fun_cases decode c m e <;> rintro ⟨⟩ <;> cases he
  case case6 pfx op sq p0 p1 p2 p3 p4 => exact ⟨pfx, op, ⟨sq, p0, p1, p2, p3, p4⟩, rfl, rfl⟩

/-- A first byte other than CMD_PREFIX is invalid, whatever the opcode (R281, R341). -/
theorem decodeRequest_of_ne {c : Cfg} {pfx : Byte} (h : pfx ≠ c.CMD_PREFIX) (op : Byte) (a : HostArgs) :
    decodeRequest c pfx op a = .hostInvalidPrefix pfx op a := if_neg h

/-- With CMD_PREFIX an opcode of the map selects an operation (R104). -/
theorem decodeRequest_of_mem {c : Cfg} {op : Byte} (h : op ∈ c.opcodes.toList) (a : HostArgs) :
    ∃ k : HostOp, decodeRequest c c.CMD_PREFIX op a = k.instr a := by
  cases hop : opcodeOf c op with
  | none => exact absurd h (opcodeOf_none_iff.1 hop)
  | some k => exact ⟨k, by simp only [decodeRequest, if_true, hop]⟩

/-- With CMD_PREFIX any other opcode is unknown (R284). -/
theorem decodeRequest_of_not_mem {c : Cfg} {op : Byte} (h : op ∉ c.opcodes.toList) (a : HostArgs) :
    decodeRequest c c.CMD_PREFIX op a = .hostUnknownOpcode op a := by
  simp only [decodeRequest, if_true, opcodeOf_none_iff.2 h]

/-! ### The frame of a request -/

/-- A channel less the register that FORCE_OUTPUT writes (R312). -/
def Channel.unforced (x : Channel) : Channel := { x with forceOn := false }

/-- What no request that takes `s` to `t` writes (R320). -/
structure RequestFrame (s t : State) : Prop where
  parser : t.parser = s.parser
  buttons : t.buttons = s.buttons
  lineRaw : t.lineRaw = s.lineRaw
  report : t.report = s.report
  distress : t.mode.distress = s.mode.distress
  progCh : t.mode.progCh = s.mode.progCh
  cfg : t.cfg = s.cfg
  pending : t.pending = s.pending
  awaitingReset : t.awaitingReset = s.awaitingReset
  channels : t.channels.map Channel.unforced = s.channels.map Channel.unforced

/-- Writes to the response, the configuration, the cache and the store are within the frame. -/
theorem requestFrame_written (s : State) (resp : RespRegs) (config : ConfigRegs) (map : List (List Byte)) (store : Memory)
    (bus : List StoreOp) :
    RequestFrame s { s with resp := resp, config := config, map := map, store := store, bus := bus } := by
  constructor <;> rfl

/-- FORCE_OUTPUT's write is to FORCE_ON alone (R312). -/
theorem forceChannel_unforced (ch : Nat) (on : Bool) (s : State) :
    (forceChannel ch on s).channels.map Channel.unforced = s.channels.map Channel.unforced := by
  apply List.ext_getElem (by simp)
  intro i _ _
  simp only [forceChannel_channels, List.getElem_map, List.getElem_modify]
  split <;> rfl

/-- Every operation stays within the frame: FORCE_OUTPUT writes FORCE_ON, the mode requests write CMD_MODE, MODE, PROG_VALID and
LOG_EN, every other one the response, the configuration, the cache and the store at most (R320). -/
theorem requestFrame_instr (a : HostArgs) (k : HostOp) (s : State) : RequestFrame s (effect (k.instr a) s) := by
  cases k
  case forceOutput =>
    simp only [HostOp.instr, effect, afterRespond_apply]
    split
    · constructor
      case channels => exact forceChannel_unforced _ _ _
      all_goals rfl
    · exact requestFrame_written s _ _ _ _ _
  case enterCmdMode | exitCmdMode => constructor <;> rfl
  case setBank | setMap =>
    simp only [HostOp.instr, effect, afterRespond_apply, setIf]
    split <;> constructor <;> simp
  case setHold | setVelthr | setHhthr | getMap | readLine =>
    simp only [HostOp.instr, effect, afterRespond_apply, setIf]
    split <;> exact requestFrame_written s _ _ _ _ _
  all_goals exact requestFrame_written s _ _ _ _ _

/-- Every request stays within the frame, whatever its first two bytes (R320). -/
theorem requestFrame_decodeRequest (pfx op : Byte) (a : HostArgs) (s : State) :
    RequestFrame s (effect (decodeRequest s.cfg pfx op a) s) := by
  by_cases hpfx : pfx = s.cfg.CMD_PREFIX
  · subst hpfx
    by_cases hop : op ∈ s.cfg.opcodes.toList
    · obtain ⟨k, hk⟩ := decodeRequest_of_mem hop a
      rw [hk]
      exact requestFrame_instr a k s
    · rw [decodeRequest_of_not_mem hop]
      exact requestFrame_written s _ _ _ _ _
  · rw [decodeRequest_of_ne hpfx]
    exact requestFrame_written s _ _ _ _ _

/-- Every operation echoes the sequence number: after the common response write only RESP_X and RESP_Y are written (R282). -/
theorem effect_instr_seq (a : HostArgs) (k : HostOp) (s : State) : (effect (k.instr a) s).resp.z = a.seq := by
  cases k
  case setHold | setVelthr | setHhthr | getMap | forceOutput | readLine =>
    simp only [HostOp.instr, effect, afterRespond_apply, setIf]
    split <;> rfl
  case setBank | setMap =>
    simp only [HostOp.instr, effect, afterRespond_apply, setIf]
    split <;> simp
  all_goals rfl

/-- Settles O47: a request's instruction stays within `RequestFrame`; without CMD_PREFIX it has no effect, and an
operation echoes. -/
theorem requestsWriteOnlyTheirRegisters : Obligations.RequestsWriteOnlyTheirRegisters := by
  intro s t m req i hdec hexec
  obtain ⟨pfx, op, a, rfl, rfl⟩ := request_of_decode hdec
  obtain ⟨rfl, -⟩ := exec_next.1 hexec
  obtain ⟨hparser, hbuttons, hlines, hreport, hdistress, hprogCh, hcfg, hpending, hawaiting, hchannels⟩ :=
    requestFrame_decodeRequest pfx op a (beginEvent s)
  refine ⟨hparser, hbuttons, hlines, hreport, hdistress, hprogCh, hcfg, hpending, hawaiting, hchannels, fun hpfx => ?_,
    fun hpfx hop => ?_⟩
  · have hne : pfx ≠ s.cfg.CMD_PREFIX := fun e => hpfx (congrArg some e)
    rw [decodeRequest_of_ne hne]
    rfl
  · obtain rfl : pfx = s.cfg.CMD_PREFIX := Option.some.inj hpfx
    obtain ⟨op', hmem, hop'⟩ := hop
    obtain rfl : op = op' := Option.some.inj hop'
    obtain ⟨k, hk⟩ := decodeRequest_of_mem hmem a
    rw [hk, effect_instr_seq]
    rfl

/-! ### Reads -/

/-- ACTIVE_BANK as a response byte (R302). -/
theorem setWidth_activeBank : ∀ b : BitVec 1, b.setWidth 8 = if b = 1 then (1 : Byte) else 0 := by decide

/-- A sample as a response byte; a line that does not exist answers 0 (R314). -/
theorem bitByte_getD_false (l : List Bool) (i : Nat) : bitByte (l.getD i false) = if l[i]? = some true then 1 else 0 := by
  rw [List.getD]
  rcases l[i]? with _ | _ | _ <;> rfl

/-- RESP_X written when a condition holds, else left at the 0 of the common response write. -/
theorem ite_answerX (p : Prop) [Decidable p] (x : Byte) (a : HostArgs) (s : State) :
    (if p then answerX x (respond a s) else respond a s) = answerX (if p then x else 0) (respond a s) := by
  split <;> rfl

/-- Settles O40: none makes a store call; the response byte of GET_BANK, GET_MAP and READ_LINE is brought to the statement's form,
that of the others has it. -/
theorem readRequestsWriteTheResponseOnly : Obligations.ReadRequestsWriteTheResponseOnly := by
  intro a s answer
  refine ⟨?getVersion, ?getFeatures, ?getHold, ?getVelthr, ?getSwap, ?getHhthr, ?getBank, ?getMap, ?readLine⟩
  case getBank =>
    rw [exec_of_not_makesStoreCall rfl, ← setWidth_activeBank]
    rfl
  case getMap =>
    rw [exec_of_not_makesStoreCall rfl, effect, afterRespond_apply, ite_answerX]
    rfl
  case readLine =>
    rw [exec_of_not_makesStoreCall rfl, effect, afterRespond_apply, ite_answerX, bitByte_getD_false, ite_and]
    rfl
  all_goals exact exec_of_not_makesStoreCall rfl s

/-! ### FORCE_OUTPUT -/

/-- FORCE_ON of one channel, channel by channel (R312). -/
theorem forceChannel_channels_eq (ch : Nat) (on : Bool) (s : State) :
    (forceChannel ch on s).channels = s.channels.mapIdx (fun i x => if i = ch then { x with forceOn := on } else x) := by
  apply List.ext_getElem (by simp)
  intro i _ _
  simp only [forceChannel_channels, List.getElem_modify, List.getElem_mapIdx, eq_comm]

/-- The bit that FORCE_OUTPUT writes, read back (R312). -/
theorem forceChannel_getD {ch : Nat} {s : State} (h : ch < s.channels.length) (on : Bool) :
    ((forceChannel ch on s).channels.getD ch {}).forceOn = on := by
  simp [h]

/-- A channel that does not exist is not written (R312). -/
theorem forceChannel_of_le {ch : Nat} {s : State} (h : s.channels.length ≤ ch) (on : Bool) : forceChannel ch on s = s := by
  rw [forceChannel, List.modify_eq_self h]

/-- Settles O44: in range the channel's bit is written and read back; out of range no channel has that number. -/
theorem forceOutputWritesOneBit : Obligations.ForceOutputWritesOneBit := by
  intro a s hlen on
  have hon : decide (a.p1 ≠ 0) = on := decide_eq_decide.2 (not_congr BitVec.toNat_eq)
  rw [exec_of_not_makesStoreCall rfl, effect, afterRespond_apply, respond_cfg, beginEvent_cfg, hon, ite_and,
    ← forceChannel_channels_eq]
  by_cases hch : a.p0.toNat < s.cfg.C
  · rw [if_pos hch, if_pos hch, forceChannel_getD (s := respond a (beginEvent s)) (hch.trans_eq hlen.symm)]
    rfl
  · rw [if_neg hch, if_neg hch, forceChannel_of_le (hlen.trans_le (not_lt.1 hch))]
    rfl

/-! ### Command mode, and the requests without an operation -/

/-- Settles O45: each is its register operation and the response. -/
theorem commandModeEntryAndExit : Obligations.CommandModeEntryAndExit := by
  intro a s
  constructor
  · exact exec_of_not_makesStoreCall (i := .enterCmdMode a) rfl s
  · exact exec_of_not_makesStoreCall (i := .exitCmdMode a) rfl s

/-- The logical complement in terms of the sequence number's value (R284, R322). -/
theorem logicalComplement_eq (sq : Byte) : logicalComplement sq = if sq.toNat = 0 then 1 else 0 :=
  if_congr BitVec.toNat_eq rfl rfl

/-- The logical complement is another byte (R284). -/
theorem logicalComplement_ne : ∀ sq : Byte, logicalComplement sq ≠ sq := by decide

/-- Settles O46: the unknown opcode answers the logical complement; a request without CMD_PREFIX has no effect. -/
theorem unknownOpcodeAndInvalidPrefix : Obligations.UnknownOpcodeAndInvalidPrefix := by
  intro op pfx a s
  rw [← logicalComplement_eq]
  exact ⟨exec_of_not_makesStoreCall (i := .hostUnknownOpcode op a) rfl s, logicalComplement_ne a.seq,
    exec_of_not_makesStoreCall (i := .hostInvalidPrefix pfx op a) rfl s⟩

end Sys2Proof.Machine
end

section
/-! The HostCommandProcessor (45_host_commands.md), the requests that write through to the store: the four SETs of one configuration
register (O41), SET_BANK (O42) and SET_MAP (O43). -/
namespace Sys2Proof.Machine

/-! ### A SET of one configuration register -/

/-- SWAP_NOTE. -/
def swapNoteReg : ConfigReg where
  addr := Cfg.ADDR_SWAP
  get := ConfigRegs.swapNote
  set v r := { r with swapNote := v }
  get_set _ _ := rfl
  set_get _ := rfl
  set_set _ _ _ := rfl

/-- HH_THRESHOLD. -/
def hhThresholdReg : ConfigReg where
  addr := Cfg.ADDR_HHTHR
  get := ConfigRegs.hhThreshold
  set v r := { r with hhThreshold := v }
  get_set _ _ := rfl
  set_get _ := rfl
  set_set _ _ _ := rfl

/-- A SET's operation after the common response write: the register is written through when `p0` is in range, and answered as it
then is (R295, R297, R299, R301). -/
def setRegister (reg : ConfigReg) (inRange : Bool) (a : HostArgs) (s : State) : State :=
  let t := setIf inRange (reg.write a.p0) s
  answerX (reg.get t.config) t

/-- In range it answers the new value. -/
theorem setRegister_true (reg : ConfigReg) (a : HostArgs) (s : State) :
    setRegister reg true a s = answerX a.p0 (reg.write a.p0 s) :=
  congrArg (answerX · (reg.write a.p0 s)) (reg.get_set a.p0 s.config)

/-- Out of range it answers the old value. -/
theorem setRegister_false (reg : ConfigReg) (a : HostArgs) (s : State) :
    setRegister reg false a s = answerX (reg.get s.config) s := rfl

/-- What a request with a SET's operation answers, in range and out of it. -/
theorem exec_of_setRegister {reg : ConfigReg} {p : Prop} [Decidable p] {a : HostArgs} {i : Instr} {s : State}
    (hv : s.cfg.valid = true) (hr : ∀ m, i ≠ .reset m)
    (hi : effect i (beginEvent s) = setRegister reg (decide p) a (respond a (beginEvent s))) :
    exec i s =
      if p then .next { s with
        config := reg.set a.p0 s.config, resp := { x := a.p0, y := 0, z := a.seq }
        store := s.store.write (reg.addr s.cfg) a.p0, bus := [.set (reg.addr s.cfg) a.p0] }
      else .next { s with bus := [], resp := { x := reg.get s.config, y := 0, z := a.seq } } := by
  rw [exec_of_ne_reset hr hv, hi]
  split
  · next hp =>
    rw [decide_eq_true hp, setRegister_true]
    rfl
  · next hp =>
    rw [decide_eq_false hp, setRegister_false]
    rfl

/-- Settles O41: each request's operation is `setRegister` of its register and range; SET_SWAP accepts every byte. -/
theorem setRequestsWriteThrough : Obligations.SetRequestsWriteThrough := by
  intro a s hv hs ignored written
  refine ⟨fun addr _ x => read_write hs.1 addr x a.p0, ?hold, ?velThreshold, ?swapNote, ?hhThreshold⟩
  case hold => exact exec_of_setRegister (reg := holdDurationReg) hv (by rintro _ ⟨⟩) rfl
  case velThreshold => exact exec_of_setRegister (reg := velThresholdReg) hv (by rintro _ ⟨⟩) rfl
  case swapNote => exact (exec_of_setRegister (reg := swapNoteReg) (p := True) hv (by rintro _ ⟨⟩) rfl).trans (if_pos trivial)
  case hhThreshold => exact exec_of_setRegister (reg := hhThresholdReg) hv (by rintro _ ⟨⟩) rfl

/-! ### SET_BANK -/

/-- The byte that names a bank is the response byte of ACTIVE_BANK when that bank is active (R303). -/
theorem bankByte_of_le {b : Byte} (h : b.toNat ≤ 1) : (BitVec.ofNat 1 b.toNat).setWidth 8 = b := by
  rw [BitVec.setWidth_ofNat_of_le_of_lt (by decide) (by omega), BitVec.ofNat_toNat, BitVec.setWidth_eq]

section
variable {a : HostArgs} {s : State} (hv : s.cfg.valid = true)
include hv

/-- SET_BANK of a bank that exists selects it (R186, R303). -/
theorem exec_setBank_of_le (h : a.p0.toNat ≤ 1) :
    exec (.setBank a) s = .next { s with
      config := { s.config with activeBank := BitVec.ofNat 1 a.p0.toNat }
      map := loadBank s.cfg s.store a.p0.toNat
      resp := { x := a.p0, y := 0, z := a.seq }
      store := s.store.write s.cfg.ADDR_BANK a.p0
      bus := (bankAddrs s.cfg a.p0.toNat).flatten.map .get ++ [.set s.cfg.ADDR_BANK a.p0] } := by
  have hanswer (t : State) : (selectBank a.p0.toNat t).config.activeBank.setWidth 8 = a.p0 := by
    rw [selectBank_of_le h]
    exact bankByte_of_le h
  have hbyte : BitVec.ofNat 8 a.p0.toNat = a.p0 := by rw [BitVec.ofNat_toNat, BitVec.setWidth_eq]
  rw [exec_of_ne_reset (by rintro _ ⟨⟩) hv]
  simp only [effect, afterRespond_apply, decide_eq_true h, setIf, if_true, hanswer]
  rw [selectBank_of_le h, hbyte]
  rfl

/-- SET_BANK of any other number answers the old bank (R303). -/
theorem exec_setBank_of_gt (h : 2 ≤ a.p0.toNat) :
    exec (.setBank a) s = .next { s with
      bus := [], resp := { x := s.config.activeBank.setWidth 8, y := 0, z := a.seq } } := by
  rw [exec_of_ne_reset (by rintro _ ⟨⟩) hv, effect, decide_eq_false (by omega)]
  rfl

end

/-- Settles O42: a bank that exists is selected, with the cache loaded from its region; any other number is ignored. -/
theorem setBankSelectsTheBank : Obligations.SetBankSelectsTheBank := by
  intro a s hv hs
  refine ⟨fun hbank => ⟨_, exec_setBank_of_le hv hbank, rfl, rfl, loadBank_length _ _ _, loadBank_row_length _ _ _,
    fun ch hc sl hsl => loadBank_getD _ _ hc hsl, ?_, fun x => read_write hs.1 _ _ _⟩, fun hbank => ?_⟩
  · rw [storesOf_append, storesOf_gets]
    rfl
  · rw [exec_setBank_of_gt hv hbank, setWidth_activeBank]

/-! ### SET_MAP -/

/-- A channel's row of the cache has S slots. -/
theorem row_length {s : State} (hrows : s.map.length = s.cfg.C) (hcols : ∀ row ∈ s.map, row.length = s.cfg.S) {ch : Nat}
    (hc : ch < s.cfg.C) : (s.map.getD ch []).length = s.cfg.S := by
  have hget : s.map.getD ch [] = s.map[ch] := by simp [hrows, hc]
  exact hget ▸ hcols _ (List.getElem_mem _)

/-- `set` in range, entry by entry (R172). -/
theorem mapGet_mapSet {ch sl : Nat} {s : State} (hc : ch < s.cfg.C) (hrow : (s.map.getD ch []).length = s.cfg.S)
    (hs : sl < s.cfg.S) (n : Byte) (k j : Nat) :
    mapGet (mapSet ch sl n s) k j = if k = ch ∧ j = sl then n else mapGet s k j := by
  by_cases hk : k = ch
  · subst hk
    rw [mapGet, mapSet_row hc hrow, mapGet]
    by_cases hj : j = sl
    · subst hj
      rw [if_pos ⟨rfl, rfl⟩, List.getD, List.getElem?_set_self (hrow.symm ▸ hs), Option.getD_some]
    · rw [if_neg fun h => hj h.2]
      exact congrArg (Option.getD · 0) (List.getElem?_set_ne (Ne.symm hj))
  · rw [if_neg fun h => hk h.1, mapGet, List.getD, List.getD, mapSet_map_of_ne hk]
    rfl

/-- `set` keeps the shape of the cache (R172). -/
theorem mapSet_lengths (ch sl : Nat) (n : Byte) (s : State) :
    (mapSet ch sl n s).map.map List.length = s.map.map List.length := by
  rw [mapSet]
  split
  · apply List.ext_getElem (by simp [cacheSet])
    intro i _ _
    simp only [storeWrite_map, cacheSet, List.getElem_map, List.getElem_modify]
    split
    · rw [List.length_set]
    · rfl
  · rfl

/-- SET_MAP in range is `set`, and answers what the cache then holds (R307). -/
theorem effect_setMap_of_lt {a : HostArgs} {s : State} (h : a.p0.toNat < s.cfg.C ∧ a.p1.toNat < s.cfg.S) :
    effect (.setMap a) s =
      answerX (mapGet (mapSet a.p0.toNat a.p1.toNat a.p2 (respond a s)) a.p0.toNat a.p1.toNat)
        (mapSet a.p0.toNat a.p1.toNat a.p2 (respond a s)) := if_pos h

/-- SET_MAP out of range writes the common response alone (R307). -/
theorem effect_setMap_of_not_lt {a : HostArgs} {s : State} (h : ¬ (a.p0.toNat < s.cfg.C ∧ a.p1.toNat < s.cfg.S)) :
    effect (.setMap a) s = respond a s := if_neg h

/-- Settles O43: in range the operation is `set`, and answers what it wrote; out of range it is none. -/
theorem setMapWritesOneEntry : Obligations.SetMapWritesOneEntry := by
  intro a s hv hs ⟨_, _, hrows, hcols, _⟩ addr
  refine ⟨fun hc hsl => ⟨_, exec_of_ne_reset (by rintro _ ⟨⟩) hv, ?_⟩, fun hout => ?_⟩
  · have hget := mapGet_mapSet (s := respond a (beginEvent s)) hc (row_length hrows hcols hc) hsl a.p2
    rw [effect_setMap_of_lt (s := beginEvent s) ⟨hc, hsl⟩, hget, if_pos ⟨rfl, rfl⟩]
    refine ⟨by simp, hget, mapSet_lengths _ _ _ _, ?_, fun x => ?_⟩
    · exact (mapSet_bus (s := respond a (beginEvent s)) hc _ _).trans (if_pos hsl)
    · refine (mapSet_read (s := respond a (beginEvent s)) hc hs.1 _ _ x).trans ?_
      exact if_congr (and_iff_right hsl) rfl rfl
  · rw [exec_of_ne_reset (by rintro _ ⟨⟩) hv,
      effect_setMap_of_not_lt (s := beginEvent s) fun ⟨hc, hsl⟩ => hout.elim hc.not_ge hsl.not_ge]
    rfl

end Sys2Proof.Machine
end

section
/-! Across the events (46_cross_cutting.md): which of them write MODE, CMD_MODE, MSTATE and DISTRESS (O56). `modeWrite_effect` says
once what each event may write to the mode registers, `effect_parser_cases` which ones write the parser registers. -/
namespace Sys2Proof.Machine

/-- The instructions that may write the mode registers on the way from `s` to `t`, and what each of them keeps (R323, R337); every
other instruction keeps them all. -/
inductive ModeWrite (s t : State) : Instr → Prop where
  | kept {i : Instr} (hmode : t.mode = s.mode) : ModeWrite s t i
  | tick (lines : List Bool) (hcmd : t.mode.cmdMode = s.mode.cmdMode) (hdistress : t.mode.distress = s.mode.distress) :
      ModeWrite s t (.tick lines)
  | enterCmdMode (a : HostArgs) (hdistress : t.mode.distress = s.mode.distress) : ModeWrite s t (.enterCmdMode a)
  | exitCmdMode (a : HostArgs) (hmode : t.mode.mode = s.mode.mode) (hdistress : t.mode.distress = s.mode.distress) :
      ModeWrite s t (.exitCmdMode a)
  | linkErr (hraises : s.cfg.LINKERR_DISTRESS = true) (hmode : t.mode = { s.mode with distress := true }) :
      ModeWrite s t .linkErr
  | reset (store0 : List Byte) : ModeWrite s t (.reset store0)

/-- LINKERR writes DISTRESS alone of the mode registers, and only if configured to (R336). -/
theorem modeWrite_linkErr (s : State) : ModeWrite s (effect .linkErr s) .linkErr := by
  rw [effect, linkErrEvent]
  split
  case isTrue hraises => exact .linkErr hraises rfl
  case isFalse => exact .kept rfl

/-- Every instruction writes the mode registers as `ModeWrite` says: no byte does, no request but those of command mode. -/
theorem modeWrite_effect (i : Instr) (s : State) : ModeWrite s (effect i s) i := by
  cases i
  case tick lines =>
    refine .tick lines ?_ ?_
    · rw [effect, tickEvent_mode, modeStep_cmdMode, sampleStep_mode]
    · rw [effect, tickEvent_mode, modeStep_distress, sampleStep_mode]
  case enterCmdMode a => exact .enterCmdMode a rfl
  case exitCmdMode a => exact .exitCmdMode a rfl rfl
  case linkErr => exact modeWrite_linkErr s
  case reset store0 => exact .reset store0
  case dataWaitingForOnVelocity v => exact .kept (completeNoteOn_mode (clearEvents s) v)
  case dataCollectSysExData v =>
    simp only [effect, afterClear_apply, appendSysex]
    split <;> exact .kept rfl
  case setHold | setVelthr | setHhthr | setBank | getMap | setMap | forceOutput | readLine =>
    simp only [effect, afterRespond_apply, setIf]
    split <;> exact .kept (by simp)
  all_goals exact .kept rfl

/-- Only a byte, LINKERR and RESET write the parser registers (R323, R345). -/
theorem effect_parser_cases (c : Cfg) (i : Instr) (s : State) :
    (effect i s).parser = s.parser ∨ (∃ b, encode c i = .byte b) ∨ i = .linkErr ∨ ∃ m, i = .reset m := by
  cases i
  case tick lines => exact .inl (tickEvent_parser lines s)
  case linkErr => exact .inr (.inr (.inl rfl))
  case reset store0 => exact .inr (.inr (.inr ⟨store0, rfl⟩))
  case setHold | setVelthr | setHhthr | setBank | getMap | setMap | forceOutput | readLine =>
    left
    simp only [effect, afterRespond_apply, setIf]
    split <;> simp
  case getVersion | getFeatures | enterCmdMode | exitCmdMode | getHold | getVelthr | getSwap | setSwap | getHhthr | getBank |
      hostUnknownOpcode | hostInvalidPrefix => exact .inl rfl
  all_goals exact .inr (.inl ⟨_, rfl⟩)

/-- Settles O56: a next state is the instruction's effect; the mode registers by `ModeWrite`, MSTATE with the parser registers. -/
theorem writersOfTheModeRegisters : Obligations.WritersOfTheModeRegisters := by
  intro i s t hexec
  obtain ⟨rfl, -⟩ := exec_next.1 hexec
  have hwrite := modeWrite_effect i (beginEvent s)
  refine ⟨fun hne => ?mode, fun hne => ?cmdMode, fun hne => ?mstate, fun hne => ?distress⟩
  case mstate =>
    have hcases := effect_parser_cases s.cfg i (beginEvent s)
    exact hcases.resolve_left fun hkept => hne (congrArg ParserRegs.mstate hkept)
  case mode =>
    cases hwrite with
    | kept hmode => exact absurd (congrArg ModeRegs.mode hmode) hne
    | tick lines => exact .inl ⟨lines, rfl⟩
    | enterCmdMode a => exact .inr (.inl ⟨a, rfl⟩)
    | exitCmdMode a hmode => exact absurd hmode hne
    | linkErr _ hmode => exact absurd (congrArg ModeRegs.mode hmode) hne
    | reset store0 => exact .inr (.inr ⟨store0, rfl⟩)
  case cmdMode =>
    cases hwrite with
    | kept hmode => exact absurd (congrArg ModeRegs.cmdMode hmode) hne
    | tick lines hcmd => exact absurd hcmd hne
    | enterCmdMode a => exact .inl ⟨a, rfl⟩
    | exitCmdMode a => exact .inr (.inl ⟨a, rfl⟩)
    | linkErr _ hmode => exact absurd (congrArg ModeRegs.cmdMode hmode) hne
    | reset store0 => exact .inr (.inr ⟨store0, rfl⟩)
  case distress =>
    cases hwrite with
    | kept hmode => exact absurd (congrArg ModeRegs.distress hmode) hne
    | tick _ _ hdistress | enterCmdMode _ hdistress | exitCmdMode _ _ hdistress => exact absurd hdistress hne
    | linkErr hraises hmode => exact .inl ⟨rfl, hraises, congrArg ModeRegs.distress hmode⟩
    | reset store0 => exact .inr ⟨store0, rfl⟩

end Sys2Proof.Machine
end

section
/-! The exceptions (60_exceptions.md): LINKERR's whole effect (O48), when a step runs an instruction (O52) and when not (O53), and
that every instruction answers a next state (O54). -/
namespace Sys2Proof.Machine

/-! ### LINKERR -/

/-- DISTRESS is raised exactly where the CFG asks for it, and is never cleared (R336, R337). -/
theorem linkErrEvent_eq (s : State) :
    linkErrEvent s =
      { s with
        parser := { s.parser with mstate := .waitingForStatus }
        mode := { s.mode with distress := s.mode.distress || s.cfg.LINKERR_DISTRESS } } := by
  rw [linkErrEvent]
  cases hraises : s.cfg.LINKERR_DISTRESS
  · simp [setMState]
  · simp [setMState, raiseDistress]

/-- Settles O48: LINKERR makes no store call, so it answers its event's state. -/
theorem linkErrorReturnsToWaitingForStatus : Obligations.LinkErrorReturnsToWaitingForStatus := fun s =>
  (exec_of_not_makesStoreCall rfl s).trans (congrArg _ (linkErrEvent_eq (beginEvent s)))

/-! ### What a step runs -/

section
variable {s : State} (hv : s.cfg.valid = true)
include hv

/-- Under a valid CFG an empty queue leaves nothing to run (R350). -/
theorem fetch_of_pending_nil (hq : s.pending = []) : fetch s = .idle := by
  simp [fetch, hv, hq]

/-- Under a valid CFG an event other than RESET is refused while the first RESET is awaited. -/
theorem fetch_of_awaitingReset {e : Event} {rest : List Event} (hq : s.pending = e :: rest) (ha : s.awaitingReset = true)
    (he : isReset e = false) : fetch s = .stop .beforeFirstReset := by
  simp [fetch, hv, hq, ha, he]

/-- After the first RESET, or at a RESET, an event that decodes is fetched. -/
theorem fetch_of_decode_ok {e : Event} {rest : List Event} {i : Instr} (hq : s.pending = e :: rest)
    (hready : s.awaitingReset = false ∨ isReset e = true) (hdecode : decode s.cfg s.parser.mstate e = .ok i) :
    fetch s = .run i { s with pending := rest } := by
  rcases hready with ha | he
  · simp [fetch, hv, hq, ha, hdecode]
  · simp [fetch, hv, hq, he, hdecode]

/-- After the first RESET, or at a RESET, an event that does not decode is refused with the decoder's reason. -/
theorem fetch_of_decode_error {e : Event} {rest : List Event} {why : DecodeError} (hq : s.pending = e :: rest)
    (hready : s.awaitingReset = false ∨ isReset e = true) (hdecode : decode s.cfg s.parser.mstate e = .error why) :
    fetch s = .stop (.malformedEvent why) := by
  rcases hready with ha | he
  · simp [fetch, hv, hq, ha, hdecode]
  · simp [fetch, hv, hq, he, hdecode]

end

/-- Settles O52: the fetched instruction is the decoded one. -/
theorem stepRunsTheDecodedInstruction : Obligations.StepRunsTheDecodedInstruction := by
  intro s e rest i hv hq hdecode hready
  rw [step, fetch_of_decode_ok hv hq hready hdecode]

/-- Settles O53, one case of `fetch` for each clause. -/
theorem stepIdleAndRefusals : Obligations.StepIdleAndRefusals := by
  intro s e rest why
  refine ⟨fun hinvalid => ?_, fun hv hq => ?_, fun hv hq ha he => ?_, fun hv hq hready hdecode => ?_⟩
  · rw [step, fetch, if_pos hinvalid]
  · rw [step, fetch_of_pending_nil hv hq]
  · rw [step, fetch_of_awaitingReset hv hq ha he]
  · rw [step, fetch_of_decode_error hv hq hready hdecode]

/-! ### Every instruction completes -/

/-- Under a valid CFG RESET answers its event's state: the addresses of its store calls exist. -/
theorem exec_reset {s : State} (hv : s.cfg.valid = true) (store0 : List Byte) :
    exec (.reset store0) s = .next (resetEvent store0 (beginEvent s)) := by
  obtain ⟨hcfg, -, -, ops, hbus, -, haddr⟩ := storeStep_resetEvent store0 (beginEvent s)
  have hcalls : (resetEvent store0 (beginEvent s)).bus = ops := hbus
  exact exec_next.2 ⟨rfl, by rw [hcalls, hcfg]; exact haddr hv⟩

/-- Under a valid CFG every instruction answers its operation's state. -/
theorem exec_of_valid (i : Instr) {s : State} (hv : s.cfg.valid = true) : exec i s = .next (effect i (beginEvent s)) := by
  by_cases hreset : ∃ store0, i = .reset store0
  · obtain ⟨store0, rfl⟩ := hreset
    exact exec_reset hv store0
  · exact exec_of_ne_reset (not_exists.1 hreset) hv

/-- No operation writes CFG (R10). -/
theorem effect_cfg (i : Instr) (s : State) : (effect i s).cfg = s.cfg := by
  have hstep := (storeStep_effect i s).cfg
  cases i <;> exact hstep

/-- No operation touches the events presented after its own (R338). -/
theorem effect_pending (i : Instr) (s : State) : (effect i s).pending = s.pending := by
  have hstep := (storeStep_effect i s).pending
  cases i <;> exact hstep

/-- Settles O54: an answered state makes only store calls that exist, and under a valid CFG every instruction answers one. -/
theorem everyInstructionCompletes : Obligations.EveryInstructionCompletes := by
  intro i s hv
  have hexec := exec_of_valid i hv
  have hcfg : (effect i (beginEvent s)).cfg = s.cfg := effect_cfg i (beginEvent s)
  exact ⟨_, hexec, hcfg, effect_pending i (beginEvent s), hcfg ▸ (exec_next.1 hexec).2⟩

end Sys2Proof.Machine
end

section
/-! RESET (70_reset_and_hazards.md): its outcome as one state over the power-up store (`bootedFrom`), every register of it (O3),
what reaches it from before (O7), the boot under a matching marker (O4) and any other (O5), a second RESET (O6), and State.reset
as the boot of the blank store (O1). -/
namespace Sys2Proof.Machine

/-! ### The booted state -/

/-- The StoreWrites of BootCheck over a power-up store (R362, R363). -/
def bootWrites (c : Cfg) (m : Memory) : List (Nat × Byte) :=
  if m.read c.ADDR_VERSION = c.SCHEMA_VERSION then [] else restoreWrites c

/-- The store that LoadFromStore reads. -/
def bootedStore (c : Cfg) (m : Memory) : Memory := m.replay ((bootWrites c m).map (fun w => .set w.1 w.2))

/-- The configuration registers as LoadFromStore takes them from a store (R364). -/
def loadedConfig (c : Cfg) (m : Memory) : ConfigRegs where
  holdDuration := m.read c.ADDR_HOLD
  velThreshold := m.read c.ADDR_VELTHR
  activeBank := (m.read c.ADDR_BANK).extractLsb' 0 1
  swapNote := m.read c.ADDR_SWAP
  hhThreshold := m.read c.ADDR_HHTHR

/-- The StoreReads of LoadFromStore (R364). -/
def loadReads (c : Cfg) (m : Memory) : List Nat :=
  [c.ADDR_HOLD, c.ADDR_VELTHR, c.ADDR_SWAP, c.ADDR_HHTHR, c.ADDR_BANK] ++
    (bankAddrs c (bankNum (loadedConfig c m).activeBank)).flatten

/-- The outcome of a boot from the power-up store `m`: InitRegisters' values, those of DISTRESS, the configuration registers and
the cache, and the store calls in their order. Of `s` only CFG, the queue and the calls before are left. -/
def bootedFrom (m : Memory) (s : State) : State :=
  { initRegisters s with
    mode := { distress := decide (m.read s.cfg.ADDR_VERSION ≠ s.cfg.SCHEMA_VERSION) }
    config := loadedConfig s.cfg (bootedStore s.cfg m)
    map := loadBank s.cfg (bootedStore s.cfg m) (bankNum (loadedConfig s.cfg (bootedStore s.cfg m)).activeBank)
    store := bootedStore s.cfg m
    bus := s.bus ++ [.get s.cfg.ADDR_VERSION] ++ (bootWrites s.cfg m).map (fun w => .set w.1 w.2) ++
      (loadReads s.cfg (bootedStore s.cfg m)).map .get }

@[simp] theorem bootedFrom_mode (m : Memory) (s : State) :
    (bootedFrom m s).mode = { distress := decide (m.read s.cfg.ADDR_VERSION ≠ s.cfg.SCHEMA_VERSION) } := rfl
@[simp] theorem bootedFrom_config (m : Memory) (s : State) :
    (bootedFrom m s).config = loadedConfig s.cfg (bootedStore s.cfg m) := rfl
@[simp] theorem bootedFrom_map (m : Memory) (s : State) :
    (bootedFrom m s).map =
      loadBank s.cfg (bootedStore s.cfg m) (bankNum (loadedConfig s.cfg (bootedStore s.cfg m)).activeBank) := rfl
@[simp] theorem bootedFrom_store (m : Memory) (s : State) : (bootedFrom m s).store = bootedStore s.cfg m := rfl

theorem bootWrites_of_eq {c : Cfg} {m : Memory} (h : m.read c.ADDR_VERSION = c.SCHEMA_VERSION) : bootWrites c m = [] := if_pos h

theorem bootWrites_of_ne {c : Cfg} {m : Memory} (h : m.read c.ADDR_VERSION ≠ c.SCHEMA_VERSION) :
    bootWrites c m = restoreWrites c := if_neg h

/-- Under a matching marker the store stays as it is (R362). -/
theorem bootedStore_of_eq {c : Cfg} {m : Memory} (h : m.read c.ADDR_VERSION = c.SCHEMA_VERSION) : bootedStore c m = m := by
  rw [bootedStore, bootWrites_of_eq h, List.map_nil, replay_nil]

/-- Under any other marker it has all of RestoreAll's writes (R363). -/
theorem bootedStore_of_ne {c : Cfg} {m : Memory} (h : m.read c.ADDR_VERSION ≠ c.SCHEMA_VERSION) :
    bootedStore c m = m.replay ((restoreWrites c).map (fun w => .set w.1 w.2)) := by
  rw [bootedStore, bootWrites_of_ne h]

/-- RESET is the boot from the power-up store (R360 to R364). -/
theorem resetEvent_eq_bootedFrom (store0 : List Byte) (s : State) :
    resetEvent store0 s = bootedFrom (bootStore store0 s) s := by
  rw [resetEvent, loadFromStore_eq]
  by_cases hmarker : (bootStore store0 s).read s.cfg.ADDR_VERSION = s.cfg.SCHEMA_VERSION
  · rw [bootCheck_of_eq (s := initRegisters { s with store := bootStore store0 s }) hmarker, bootedFrom,
      bootedStore_of_eq hmarker, bootWrites_of_eq hmarker]
    simp [initRegisters, loadedConfig, loadReads, hmarker]
  · rw [bootCheck_of_ne (s := initRegisters { s with store := bootStore store0 s }) hmarker, restoreAll_eq, bootedFrom,
      bootedStore_of_ne hmarker, bootWrites_of_ne hmarker]
    simp [initRegisters, loadedConfig, loadReads, hmarker]

/-- Under a valid CFG RESET answers the booted state. -/
theorem exec_reset_eq {s : State} (hv : s.cfg.valid = true) (store0 : List Byte) :
    exec (.reset store0) s = .next (bootedFrom (bootStore store0 s) (beginEvent s)) := by
  rw [exec_reset hv, resetEvent_eq_bootedFrom]
  rfl

/-- The StoreWrites among the calls of a RESET are BootCheck's. -/
theorem storesOf_bootedFrom (m : Memory) (s : State) :
    storesOf (bootedFrom m (beginEvent s)).bus = bootWrites s.cfg m := by
  simp only [bootedFrom, beginEvent_bus, beginEvent_cfg, storesOf_append, storesOf_sets, storesOf_gets, storesOf_nil,
    storesOf_cons_get, List.nil_append, List.append_nil]

/-- The power-up store read at an address (R360). -/
theorem read_bootStore (store0 : List Byte) (s : State) (a : Nat) : (bootStore store0 s).read a = bootByte store0 s a := by
  rw [bootStore, bootByte]
  split
  · simp [ofImage_read]
  · rfl

/-! ### Every register after RESET -/

/-- Settles O3, from the booted state's equation. -/
theorem registersAfterReset : Obligations.RegistersAfterReset := by
  intro s store0 hv _
  refine ⟨_, exec_reset_eq hv store0, rfl, rfl, rfl, ?_, rfl, loadBank_length _ _ _, loadBank_row_length _ _ _,
    fun ch hch sl hsl => loadBank_getD _ _ hch hsl, rfl, rfl, rfl, rfl, rfl, rfl⟩
  rw [bootedFrom_mode, beginEvent_cfg, read_bootStore]

/-- Events whose operations agree have the same outcome. -/
theorem onEvent_congr {s s' : State} {f f' : State → State} (h : f (beginEvent s) = f' (beginEvent s')) :
    onEvent s f = onEvent s' f' := by
  rw [onEvent, onEvent, h]

/-- The power-up store of a later RESET is the store (R360). -/
theorem bootStore_of_later {s : State} (h : s.awaitingReset = false) (store0 : List Byte) : bootStore store0 s = s.store := by
  simp [bootStore, h]

/-- Of the state before, a boot takes CFG, the queue and the calls before (R350). -/
theorem bootedFrom_congr (m : Memory) {s s' : State} (hcfg : s.cfg = s'.cfg) (hbus : s.bus = s'.bus)
    (hpending : s.pending = s'.pending) : bootedFrom m s = bootedFrom m s' := by
  rw [bootedFrom, bootedFrom, initRegisters, initRegisters, hcfg, hbus, hpending]

/-- Settles O7: after the first RESET the power-up store is the store, and a boot takes no register of the state before. -/
theorem laterResetKeepsOnlyTheStore : Obligations.LaterResetKeepsOnlyTheStore := by
  intro s s' m m' ha ha' hcfg hstore hpending
  rw [exec_eq, exec_eq]
  apply onEvent_congr
  calc resetEvent m (beginEvent s)
      = bootedFrom s.store (beginEvent s) := by
        rw [resetEvent_eq_bootedFrom, bootStore_of_later (s := beginEvent s) ha, beginEvent_store]
    _ = bootedFrom s'.store (beginEvent s') := by rw [hstore]; exact bootedFrom_congr _ hcfg rfl hpending
    _ = resetEvent m' (beginEvent s') := by
        rw [resetEvent_eq_bootedFrom, bootStore_of_later (s := beginEvent s') ha', beginEvent_store]

/-! ### The boot under a matching marker -/

/-- Settles O4: BootCheck writes nothing, so the store stays the power-up store. -/
theorem matchingMarkerWritesNothing : Obligations.MatchingMarkerWritesNothing := by
  intro s store0 hv _ hmarker
  rw [← read_bootStore] at hmarker
  refine ⟨_, exec_reset_eq hv store0, ?_, fun a _ => ?_, ?_⟩
  · rw [storesOf_bootedFrom, bootWrites_of_eq hmarker]
  · rw [bootedFrom_store, beginEvent_cfg, bootedStore_of_eq hmarker, read_bootStore]
  · simp [hmarker]

/-! ### The boot under any other marker -/

/-- C rows of S entries. -/
theorem defaultWrites_length (c : Cfg) (b : Nat) : (defaultWrites c b).length = c.C * c.S := by
  simp [defaultWrites, List.length_flatMap]

/-- RestoreAll makes 5 + 2×C×S + 1 writes (R363). -/
theorem restoreWrites_length (c : Cfg) : (restoreWrites c).length = 5 + 2 * (c.C * c.S) + 1 := by
  simp only [restoreWrites, defaultConfigWrites, List.length_append, defaultWrites_length, List.length_cons, List.length_nil]
  omega

/-- The default bank is a bank: its low bit is all of it (R10). -/
theorem bankNum_defBank {c : Cfg} (hv : c.valid = true) : bankNum (c.DEF_BANK.extractLsb' 0 1) = c.DEF_BANK.toNat := by
  obtain ⟨-, -, -, -, -, hbank, -⟩ := valid_defaults hv
  simp only [bankNum, BitVec.extractLsb'_toNat]
  omega

section
variable {c : Cfg} (hv : c.valid = true) {m : Memory} (hm : m.wf = true) (hmarker : m.read c.ADDR_VERSION ≠ c.SCHEMA_VERSION)
include hv hm hmarker

/-- A configuration byte or the marker after RestoreAll (R363). -/
theorem read_bootedStore_of_ne {a : Nat} {v : Byte}
    (hw : (a, v) ∈ defaultConfigWrites c ∨ (a, v) = (c.ADDR_VERSION, c.SCHEMA_VERSION)) :
    (bootedStore c m).read a = v := by
  rw [bootedStore_of_ne hmarker]
  exact read_restoreWrites_config hv hm hw

/-- After RestoreAll the configuration registers load as their defaults (R363, R364). -/
theorem loadedConfig_bootedStore_of_ne :
    loadedConfig c (bootedStore c m) =
      { holdDuration := c.DEF_HOLD
        velThreshold := c.DEF_VELTHR
        activeBank := c.DEF_BANK.extractLsb' 0 1
        swapNote := c.DEF_SWAP
        hhThreshold := c.DEF_HHTHR } := by
  have hread : ∀ w ∈ defaultConfigWrites c, (bootedStore c m).read w.1 = w.2 :=
    fun w hw => read_bootedStore_of_ne hv hm hmarker (.inl hw)
  simp only [defaultConfigWrites, List.forall_mem_cons] at hread
  obtain ⟨hhold, hvelthr, hbank, hswap, hhhthr, -⟩ := hread
  rw [loadedConfig, hhold, hvelthr, hbank, hswap, hhhthr]

/-- After RestoreAll either bank loads as its default table (R363). -/
theorem loadBank_bootedStore_of_ne {b : Nat} (hb : b ≤ 1) : loadBank c (bootedStore c m) b = defaultTable c b := by
  rw [bootedStore_of_ne hmarker, loadBank_eq,
    table_eq c.UNASSIGNED (defaultTable_length hv b) (defaultTable_row_length hv b)]
  refine List.map_congr_left fun ch hch => List.map_congr_left fun sl hsl => ?_
  exact read_restoreWrites_slot hv hm hb (List.mem_range.1 hch) (List.mem_range.1 hsl)

end

/-- Settles O5: the writes are RestoreAll's, and the registers load what they leave in the store. -/
theorem mismatchedMarkerRestoresAll : Obligations.MismatchedMarkerRestoresAll := by
  intro s store0 hv hl hs hmarker
  rw [← read_bootStore] at hmarker
  obtain ⟨hm, -⟩ := storeOk_bootStore hs hl
  obtain ⟨-, -, -, -, -, hbank, -⟩ := valid_defaults hv
  have hwrites := (storesOf_bootedFrom (bootStore store0 s) s).trans (bootWrites_of_ne hmarker)
  have hconfig := loadedConfig_bootedStore_of_ne hv hm hmarker
  refine ⟨_, exec_reset_eq hv store0, hwrites, ?_, hconfig, fun b hb ch hch sl hsl => ?_, ?_, ?_, fun a _ ha => ?_, ?_⟩
  · rw [hwrites, restoreWrites_length]
  · rw [bootedFrom_store, beginEvent_cfg, ← loadBank_getD _ b hch hsl, loadBank_bootedStore_of_ne hv hm hmarker hb]
  · rw [bootedFrom_map, beginEvent_cfg, hconfig, bankNum_defBank hv, loadBank_bootedStore_of_ne hv hm hmarker hbank]
  · exact read_bootedStore_of_ne hv hm hmarker (.inr rfl)
  · rw [hwrites] at ha
    rw [bootedFrom_store, beginEvent_cfg, bootedStore_of_ne hmarker, ← read_bootStore]
    exact read_replay_sets_of_ne fun w hw e => ha (e ▸ List.mem_map_of_mem hw)
  · simp [hmarker]

/-! ### A second RESET -/

/-- Whatever marker a boot finds, the store it leaves has the expected one (R362, R363). -/
theorem read_bootedStore_version {c : Cfg} (hv : c.valid = true) {m : Memory} (hm : m.wf = true) :
    (bootedStore c m).read c.ADDR_VERSION = c.SCHEMA_VERSION := by
  by_cases hmarker : m.read c.ADDR_VERSION = c.SCHEMA_VERSION
  · rw [bootedStore_of_eq hmarker, hmarker]
  · exact read_bootedStore_of_ne hv hm hmarker (.inr rfl)

/-- A boot from a store with a matching marker, in full. -/
theorem bootedFrom_of_eq {m : Memory} {s : State} (h : m.read s.cfg.ADDR_VERSION = s.cfg.SCHEMA_VERSION) :
    bootedFrom m s =
      { initRegisters s with
        config := loadedConfig s.cfg m
        map := loadBank s.cfg m (bankNum (loadedConfig s.cfg m).activeBank)
        store := m
        bus := s.bus ++ [.get s.cfg.ADDR_VERSION] ++ (loadReads s.cfg m).map .get } := by
  rw [bootedFrom, bootedStore_of_eq h, bootWrites_of_eq h]
  simp [initRegisters, h]

/-- Settles O6: the second boot starts from the store of the first, whose marker matches, and loads the same registers from it. -/
theorem secondResetClearsDistress : Obligations.SecondResetClearsDistress := by
  intro s t store0 store1 hv hl hs hexec
  have ht : t = bootedFrom (bootStore store0 s) (beginEvent s) := by
    rw [exec_reset_eq hv] at hexec
    exact (Host.Outcome.next.inj hexec).symm
  have hcfg : t.cfg = s.cfg := ht ▸ rfl
  have hstore : bootStore store1 t = bootedStore s.cfg (bootStore store0 s) := by
    rw [bootStore_of_later (ht ▸ rfl), ht, bootedFrom_store, beginEvent_cfg]
  have hmarker : (bootStore store1 t).read t.cfg.ADDR_VERSION = t.cfg.SCHEMA_VERSION := by
    rw [hcfg, hstore]
    exact read_bootedStore_version hv (storeOk_bootStore hs hl).1
  refine ⟨_, exec_reset_eq (hcfg ▸ hv) store1, ?_, ?_⟩
  · exact (storesOf_bootedFrom _ t).trans (bootWrites_of_eq hmarker)
  · rw [bootedFrom_of_eq (s := beginEvent t) hmarker, hstore, ht]
    rfl

/-! ### The boot of the blank store -/

/-- The store of 95_test_vectors.md section 2 whose every byte is erased. -/
abbrev blankImage : List Byte := List.replicate 72 0xFF

/-- Under REFCFG the blank store boots to the default image (95_test_vectors.md section 2). -/
theorem bootedStore_blank : bootedStore refcfg (Memory.ofImage blankImage 0) = Memory.defaultImage := by decide

/-- A coherent state's configuration registers are those that load from its store (R71). -/
theorem loadedConfig_of_coherent {s : State} (h : Coherent s) : loadedConfig s.cfg s.store = s.config := by
  obtain ⟨-, hhold, hvelthr, hswap, hhhthr, hbank⟩ := h
  rw [loadedConfig, ← hhold, ← hvelthr, ← hswap, ← hhhthr, ← hbank]

/-- State.reset has the registers that load from its store, and DISTRESS by the blank store's marker. -/
theorem bootedFrom_blank (pending : List Event) :
    { bootedFrom (Memory.ofImage blankImage 0) { State.reset with pending := pending } with bus := [] } =
      { State.reset with pending := pending } := by
  have hstore : bootedStore State.reset.cfg (Memory.ofImage blankImage 0) = State.reset.store := bootedStore_blank
  have hmap := mirror_reset.coherent.1
  rw [bootedFrom, hstore, loadedConfig_of_coherent mirror_reset.coherent, ← hmap]
  rfl

/-- Settles O1: of the state before only the queue is left, and State.reset is its own boot from the blank store. -/
theorem resetStateIsBootFromBlankStore : Obligations.ResetStateIsBootFromBlankStore := by
  intro s hcfg ha
  have hboot : bootStore blankImage s = Memory.ofImage blankImage 0 := if_pos ha
  have hreset : bootedFrom (Memory.ofImage blankImage 0) (beginEvent s) =
      bootedFrom (Memory.ofImage blankImage 0) { State.reset with pending := s.pending } :=
    bootedFrom_congr _ hcfg rfl rfl
  refine ⟨_, exec_reset_eq (hcfg ▸ mirror_reset.valid) blankImage, ?_⟩
  rw [hboot, hreset, bootedFrom_blank]

end Sys2Proof.Machine
end
